-- ==== Sys2Proof/Word.lean ====
section
/-! DEFINITION. The part has no machine word: the one thing the manual treats as bits is the byte on the
Cell Link (12_the_cell_link.md, R183) and the 16-bit check sequence and notice number (R183, R191). -/
namespace Sys2Proof

/-- A byte on the Cell Link (R183: 8 data bits). -/
abbrev Byte := BitVec 8

/-- A 16-bit register: the CRC register (R183) and the notice number (R191). -/
abbrev Word16 := BitVec 16

end Sys2Proof
end

