-- ==== Sys2Proof/Syntax.lean ====
section
/-! DEFINITION. The commands: one constructor of `Instr` for each row of spec/opcode_table.json. Operands carry what
the part reads at that moment and no other row announces (log 4). -/
namespace Sys2Proof

/-- The two hand buttons (R120). -/
inductive Hand where
  | left | right
deriving DecidableEq, Repr

/-- The two Infeed units, each with its own motion-done input and motion timer (R125). -/
inductive InfeedUnit where
  | turner | lift
deriving DecidableEq, Repr

/-- An encoder step: rearward adds one hundredth, forward subtracts one (R81). -/
inductive EncoderDir where
  | rearward | forward
deriving DecidableEq, Repr

/-- The 23 switch inputs, in the order of R164. "Active" is broken for CURTAIN and open for E_STOP. -/
inductive Switch where
  | curtain | eStop
  | handL | handR | stepOk | jogOk | resetBtn | serviceKey
  | homeSwitch | knifeTop | knifeBottom | clampTop | clampPressure | plateFitted | frontClear | loadInPlace
  | pilePresent | reamHeld | liftPresent | pusherHome | hydReady | turnerDone | liftDone
deriving DecidableEq, Repr

/-- The latest conversions of the four height and width channels (R167): tenths, and hundredths for the probe. -/
structure Channels where
  pileTop : Nat
  clampHeight : Nat
  knifeHeight : Nat
  widthProbe : Nat
deriving DecidableEq, Repr

/-- The two channels of E_STOP (R164): whether each is open. -/
structure EStopChannels where
  one : Bool
  two : Bool
deriving DecidableEq, Repr

/-- What a sample shows of the switch inputs (R164): those that are active, and the two channels of E_STOP. -/
structure Contacts where
  active : List Switch
  eStop : EStopChannels
deriving DecidableEq, Repr

/-- The signals on the four height and width channels, in nanovolts (R167). -/
structure Signals where
  pileTop : Int
  clampHeight : Int
  knifeHeight : Int
  widthProbe : Int
deriving DecidableEq, Repr

/-- What a CLEAR reads from the field and no row announces: the levels of KNIFE_TOP and CLAMP_TOP (R117) and the
pile-top channel (R137). -/
structure FieldView where
  knifeTop : Bool
  clampTop : Bool
  pileTop : Nat
deriving DecidableEq, Repr

/-- Pulse counts of the five edge channels RF1, RF2, RF3, SF1, SF2 over one edge scan (R145). -/
structure EdgeCounts where
  rf1 : Nat
  rf2 : Nat
  rf3 : Nat
  sf1 : Nat
  sf2 : Nat
deriving DecidableEq, Repr

/-- One constructor for each row of spec/opcode_table.json, in the table's order. `admitLevel` is the row ADMIT. -/
inductive Instr where
  /-- POWER_ON_RESET (R182): what the first sample shows of the switch inputs and of the height and width channels. -/
  | powerOnReset (contacts : Contacts) (signals : Signals)
  /-- FRAME_RECEIVED (R185): a frame whose CHECK is complete; `bad` if one of its bytes had an error. -/
  | frameReceived (bad : Bool) (kind tag : Byte) (body : List Byte) (crc : Word16)
  | gapTimeout
  | frameSent
  | requestUnknown
  | submit
  | withdraw
  | jobInfo
  | lineInfo
  | hold
  | resume
  | admitLevel
  | clear (view : FieldView)
  | reference
  | classSet
  | classGet
  /-- CONST_SET (R179): with the level of SERVICE_KEY as it is served. -/
  | constSet (serviceKey : Bool)
  | constGet
  | noticeMode
  | rearm
  | restart
  | storeWriteComplete
  | planDone
  | planRefused
  | eStopOpen
  | eStopReleased
  | curtainBroken
  | curtainClear
  | gaugeCurtainClearExpiry
  | pusherCurtainClearExpiry
  | handPress (hand : Hand)
  | handRelease (hand : Hand)
  | windowExpiry
  /-- STEP_OK: with the width probe's reading (R72). -/
  | stepOk (widthProbe : Nat)
  /-- JOG_OK: with the level of LIFT_PRESENT (R155). -/
  | jogOk (liftPresent : Bool)
  | resetBtn (view : FieldView)
  | homeSwitchActive
  | encoderStep (dir : EncoderDir)
  | settleExpiry
  | searchLimitExpiry
  | encoderStall
  | clampPressureActive (clampHeight : Nat)
  | clampPressureInactive
  | clampBottom (clampHeight : Nat)
  | dwellExpiry
  | entryPoint (knifeHeight : Nat)
  | knifeBottomActive
  | knifeTopActive
  | clampTopActive
  | plateFittedActive
  | plateFittedInactive
  | frontClearActive
  | loadInPlaceActive
  | loadInPlaceInactive
  | pilePresentActive (pileTop : Nat)
  | pilePresentInactive
  | reamHeldInactive
  /-- MOTION_DONE: which unit, with the level of REAM_HELD and the pile-top reading (R134). -/
  | motionDone (unit : InfeedUnit) (reamHeld : Bool) (pileTop : Nat)
  | motionTimerExpiry (unit : InfeedUnit)
  | pusherHomeActive
  | edgeScanEnd (pulses : EdgeCounts)
  | jogTimerExpiry
  | transferTimerExpiry
  | hydReadyActive
  | hydReadyInactive
  | lenAbove240
deriving DecidableEq, Repr

end Sys2Proof
end

