-- ==== Sys2Proof/Decode.lean ====
section
/-! DEFINITION. spec/opcode_table.json gives none of its 66 rows any bits (every row's "fields" is empty): the part's
commands are events, not words. So no word spells a command, and the table's decoder answers none on every word. The
Cell Link's frames, which do have codes, are read in Machine/LinkCmds.lean by R183 to R187. -/
namespace Sys2Proof

/-- The command that a word spells by the table's bits: none, since the table gives no row any bits. -/
def decodeTableWord (_nbits _w : Nat) : Option Instr := none

end Sys2Proof
end

