-- ==== Sys2Proof/Config.lean ====
section
/-! DEFINITION. The free values: what the manual leaves open. Each is opaque, so a theorem that mentions one
holds for every value of it. -/
namespace Sys2Proof.Config

/-- R181: when supply is lost during a store write the record holds, at the next power-on, the old value whole or
the new value whole. `true`: the new one. Applied to `State.free`, a fresh number at each use. DESIGN CHOICE
(form only, log 22); safe. -/
opaque supplyLossKeepsNew : Nat → Bool

/-- R163 and section 12.6: a waiting time in tenths of a second is reported in two bytes. What is reported for a time
of more than 65,535 tenths is not stated. DESIGN CHOICE (form only, log 21); safe. -/
opaque overlongWait : Nat → Word16

/-- R167: a channel converts a signal between 0 V and 10 V in proportion to a whole number. Which of the two nearest whole
numbers a signal between them reads is not stated. `true`: the upper one. Applied to the top of the channel's range and
the signal. DESIGN CHOICE (form only, log 43); safe. -/
opaque conversionRoundsUp : Nat → Int → Bool

end Sys2Proof.Config
end

