-- ==== Sys2Proof/Machine/State.lean ====
section
/-! DEFINITION. The state of the part: one record for each block of 00_scope.md ("The blocks"), every field plain data,
and the state right after a power-on reset of a new module. -/
namespace Sys2Proof.Machine

/-- A timer in milliseconds: whether it runs, what it has counted, and where it expires. -/
structure Timer where
  running : Bool
  elapsed : Nat
  limit : Nat
deriving DecidableEq, Repr

/-! ### Stacks and orientation (chapter 1) -/

/-- The four sheet edges, in the order of section 12.6 (GRIP 0, TAIL 1, LAY 2, OFF 3). -/
inductive Edge where
  | grip | tail | lay | off
deriving DecidableEq, Repr

inductive Face where
  | up | down
deriving DecidableEq, Repr

/-- An orientation record (R1). -/
structure Orientation where
  rear : Edge
  face : Face
deriving DecidableEq, Repr

/-- The turns of a TURN step (R2, R3). -/
inductive TurnKind where
  | cw | ccw | half
deriving DecidableEq, Repr

inductive Disposition where
  | waste | aside | output
deriving DecidableEq, Repr

/-- A TAKE step carries WASTE or OUTPUT, never ASIDE (R12). -/
inductive TakeDisposition where
  | waste | output
deriving DecidableEq, Repr

/-- A stack record (R6). -/
structure StackRec where
  job : Nat
  lift : Nat
  strip : Nat
  along : Nat
  across : Nat
  height : Nat
  orient : Orientation
  partialCut : Bool
deriving DecidableEq, Repr

/-- An Aside List entry: a stack record without a partial-cut marker (R6, R13). -/
structure AsideRec where
  job : Nat
  lift : Nat
  strip : Nat
  along : Nat
  across : Nat
  height : Nat
  orient : Orientation
deriving DecidableEq, Repr

/-- The pending cut-off with the disposition of the step that made it (R9). -/
structure CutOff where
  stack : StackRec
  disp : Disposition
deriving DecidableEq, Repr

/-- The lift tally (R16). -/
structure Tally where
  strokes : Nat
  recuts : Nat
  outputs : Nat
  waste : Nat
  limited : Nat
deriving DecidableEq, Repr

/-! ### Jobs (chapter 2) -/

/-- A job record: the eighteen fields of R18. -/
structure JobRecord where
  number : Nat
  priority : Nat
  paperClass : Nat
  rear : Edge
  face : Face
  sheetL : Nat
  sheetW : Nat
  nr : Nat
  pl : Nat
  gl : Nat
  nc : Nat
  pw : Nat
  gw : Nat
  trimGrip : Nat
  trimLay : Nat
  liftHeight : Nat
  fixedCount : Option Nat
  firstOff : Bool
deriving DecidableEq, Repr

/-- The eight job states in the order of R23; the last three are terminal and stand in notices only. -/
inductive JobState where
  | queued | planning | planned | called | running | done | cancelled | refused
deriving DecidableEq, Repr

/-- The reasons of a JOB notice, in the order of section 12.6. -/
inductive JobReason where
  | accepted | displaced | none | withdrawn | oversize | noFit | sliver | tooNarrow | asideDepth | tooLong
deriving DecidableEq, Repr

inductive BankId where
  | a | b
deriving DecidableEq, Repr

/-- An entry of the Job Table (R22). -/
structure JobEntry where
  record : JobRecord
  state : JobState
  bank : Option BankId
  liftsCompleted : Nat
  finalCount : Option Nat
deriving DecidableEq, Repr

/-! ### Plans and banks (chapter 3) -/

/-- A paper-class record (R178). -/
structure PaperClass where
  draw : Nat
  pressure : Nat
  dwell : Nat
  intensity : Nat
  jogLimit : Nat
deriving DecidableEq, Repr

/-- The five machine constants copied at planning start (R40). -/
structure PlanConsts where
  smin : Nat
  gminStd : Nat
  gminNarrow : Nat
  gmax : Nat
  knife : Nat
deriving DecidableEq, Repr

/-- The kind of a step with the fields of that kind (R54). -/
inductive StepAction where
  | cut (n : Nat) (disp : Disposition) (plate : Bool)
  | turn (kind : TurnKind)
  | recall
  | take (disp : TakeDisposition)
deriving DecidableEq, Repr

/-- A step record (R54). -/
structure CutStep where
  index : Nat
  strip : Nat
  expAlong : Nat
  expAcross : Nat
  action : StepAction
deriving DecidableEq, Repr

inductive BankState where
  | empty | planning | ready | inUse
deriving DecidableEq, Repr

/-- A cut bank (R35). -/
structure Bank where
  job : Option Nat
  state : BankState
  stepCount : Nat
  steps : List CutStep
  snapshot : Option PaperClass
deriving DecidableEq, Repr

/-- The planning operation in progress (R38, R40): `none` in State is the planner IDLE. -/
structure PlanOp where
  job : Nat
  bank : BankId
  consts : PlanConsts
  timer : Timer
deriving DecidableEq, Repr

/-! ### The Program Runner (chapter 4) -/

inductive RunnerState where
  | idle | loading | running | held | liftEnd | clearance
deriving DecidableEq, Repr

inductive StepPhase where
  | prepare | positioning | awaitStart | cycle | takeaway | parking | awaitConfirm
deriving DecidableEq, Repr

/-- A lift of a job, as named by the ended lift and the handover park (R59). -/
structure LiftId where
  job : Nat
  lift : Nat
deriving DecidableEq, Repr

/-- The current lift (R59). -/
structure CurrentLift where
  job : Nat
  lift : Nat
  bank : BankId
deriving DecidableEq, Repr

/-- LIMITED mark, target and actual position of a completed move (R59, R81). -/
structure MoveResult where
  limited : Bool
  target : Int
  actual : Int
deriving DecidableEq, Repr

/-- What the gauge move that the Runner awaits is for: a step (R66, R71) or the handover park of a lift (R60). -/
inductive MoveAsk where
  | step
  | handover (l : LiftId)
deriving DecidableEq, Repr

/-- The Program Runner's record (R59). The last four fields are implied by R60, R64, R67, R73 and R74 (logs 11, 36). -/
structure Runner where
  state : RunnerState
  lift : Option CurrentLift
  ended : Option LiftId
  stepIndex : Nat
  phase : Option StepPhase
  hold : Bool
  firstOff : Bool
  park : Option LiftId
  moveResult : Option MoveResult
  working : Option StackRec
  cutoff : Option CutOff
  aside : List AsideRec
  tally : Tally
  asked : Option MoveAsk
  takeOk : Bool
  faultBack : Bool
  lastDone : Bool
deriving DecidableEq, Repr

/-! ### The Gauge Axis (chapter 5) -/

inductive AxisState where
  | unreferenced | referencing | idle | moving | settling | paused | faulted
deriving DecidableEq, Repr

inductive MovePhase where
  | search | overshoot | approach
deriving DecidableEq, Repr

/-- A move as the Runner asks it (R86): CUT with N, H and k, or PARK with its position. -/
inductive MoveReq where
  | cut (n h k : Nat)
  | park (pos : Nat)
deriving DecidableEq, Repr

/-- A move in progress (R86) with the constants taken at its start (R100); `req = none` is the reference park of R84. -/
structure Move where
  req : Option MoveReq
  target : Int
  overshoot : Option Int
  limited : Bool
  backlash : Nat
  gmax : Nat
  wPos : Nat
  settle : Nat
deriving DecidableEq, Repr

/-- A reference run in progress with the constants read at its start (R84, R100). -/
structure RefRun where
  ph : Nat
  gmax : Nat
  backlash : Nat
  wPos : Nat
  settle : Nat
deriving DecidableEq, Repr

/-- The Gauge Axis's record (R81). `gminStd` is Gmin_std as read at the last start of a move or of a reference run (R100, log
19); `driven` says that a travel has been commanded since the last reset (R102). -/
structure Gauge where
  state : AxisState
  phase : Option MovePhase
  valid : Bool
  position : Int
  move : Option Move
  pendingMove : Option MoveReq
  corrective : Nat
  last : Option MoveResult
  refRun : Option RefRun
  settleTimer : Timer
  searchTimer : Timer
  stallTimer : Timer
  clearTimer : Timer
  gminStd : Nat
  driven : Bool
deriving DecidableEq, Repr

/-! ### The Cut Cycle unit (chapter 6) -/

inductive CycleState where
  | ready | waitGrant | clamping | dwell | strokeDown | strokeUp | unclamp | abortReturn | stopped | returnNeeded
deriving DecidableEq, Repr

inductive Purpose where
  | cut | ret
deriving DecidableEq, Repr

/-- The return state of R103: READY or RETURN_NEEDED. -/
inductive ReturnState where
  | ready | returnNeeded
deriving DecidableEq, Repr

inductive Monitor where
  | idle | one | engaged | spent
deriving DecidableEq, Repr

/-- The Cut Cycle unit's record (R103) with the two-hand monitor (R120). `faulted`: the cycle was ended by NO_STACK or
aborted by a guillotine station fault, so that its outcome is FAULTED (R112). -/
structure Cycle where
  state : CycleState
  purpose : Option Purpose
  returnState : ReturnState
  entryPassed : Bool
  counted : Bool
  height : Option Nat
  lastHeight : Nat
  pressureStep : Nat
  dwell : Nat
  faulted : Bool
  monitor : Monitor
  windowTimer : Timer
  dwellTimer : Timer
deriving DecidableEq, Repr

/-! ### The Infeed (chapter 7) -/

inductive TurnerState where
  | empty | calling | turning | ready | exhausted | clearance
deriving DecidableEq, Repr

inductive LiftState where
  | idle | picking | holding | depositing | returning | clearance
deriving DecidableEq, Repr

/-- The Infeed motions, in the order of section 12.6. -/
inductive InfeedMotion where
  | clampPile | invert | rotateCw | rotateCcw | unclamp | pick | deposit | ret
deriving DecidableEq, Repr

/-- The pile record (R128) with the current division over the lifts to go (R131). -/
structure PileRec where
  job : Nat
  orient : Orientation
  height : Nat
  limit : Nat
  count : Nat
  picked : Nat
  remaining : Nat
  base : Nat
  extra : Nat
  exhausted : Bool
deriving DecidableEq, Repr

/-- A lift record (R124, R141): job, lift number and measured height. -/
structure LiftRec where
  job : Nat
  lift : Nat
  height : Nat
deriving DecidableEq, Repr

/-- The Infeed's record (R124). From `turnerTimer` on, the fields are those R125, R133, R138 and R139 imply: the two
motion timers, the pick height, a granted motion whose done changes no record (one for each unit), the clearance
motions, and the job of a RETURN after a deposit. -/
structure Infeed where
  turner : TurnerState
  called : Option Nat
  rejected : Bool
  pileLost : Bool
  pile : Option PileRec
  motions : List InfeedMotion
  lift : LiftState
  held : Option LiftRec
  returnOwed : Bool
  failedPicks : Nat
  turnerTimer : Timer
  liftTimer : Timer
  pickHeight : Option Nat
  turnerOrphan : Option InfeedMotion
  liftOrphan : Option InfeedMotion
  unclamped : Bool
  clearReturn : Bool
  returnJob : Option Nat
deriving DecidableEq, Repr

/-! ### The Jogger (chapter 8) -/

inductive JoggerState where
  | empty | receiving | jogging | aligned | handing | failed | clearance
deriving DecidableEq, Repr

inductive TransferPhase where
  | none | push | timedOut | ret
deriving DecidableEq, Repr

inductive PusherDir where
  | hold | forward | back
deriving DecidableEq, Repr

/-- An edge scan in progress (R145): its resolution, the five counters and its 25 ms. -/
structure ScanRun where
  res : Nat
  counts : EdgeCounts
  timer : Timer
deriving DecidableEq, Repr

/-- The Jogger's record (R141). `pusher` is the direction its rules give the pusher; a stop or a curtain pause holds it
all the same (R141, R152). -/
structure Jogger where
  state : JoggerState
  lift : Option LiftRec
  receivingFor : Option Nat
  intensity : Nat
  rejogUsed : Bool
  jogTimer : Timer
  pass : Nat
  lastScan : Option EdgeCounts
  scan : Option ScanRun
  phase : TransferPhase
  transferTimer : Timer
  pusher : PusherDir
  paused : Bool
  clearTimer : Timer
deriving DecidableEq, Repr

/-! ### The Hydraulic Arbiter and the Input Conditioner (chapter 9) -/

inductive UnitState where
  | unavailable | free | held
deriving DecidableEq, Repr

inductive Requester where
  | cut | lift | turn
deriving DecidableEq, Repr

/-- The Arbiter's record (R157): a pending request is its waiting time in milliseconds. -/
structure Arbiter where
  unit : UnitState
  holder : Option Requester
  cut : Option Nat
  lift : Option Nat
  turn : Option Nat
deriving DecidableEq, Repr

/-- One switch input at the Conditioner (R164): raw state, filtered state, stable counter. `due`: the last sample has decided
the change of the filtered state, which its command makes (R165, log 44). -/
structure InputState where
  raw : Bool
  filtered : Bool
  count : Nat
  due : Bool
deriving DecidableEq, Repr

/-- The 23 switch inputs (R164). -/
structure Inputs where
  curtain : InputState
  eStop : InputState
  handL : InputState
  handR : InputState
  stepOk : InputState
  jogOk : InputState
  resetBtn : InputState
  serviceKey : InputState
  homeSwitch : InputState
  knifeTop : InputState
  knifeBottom : InputState
  clampTop : InputState
  clampPressure : InputState
  plateFitted : InputState
  frontClear : InputState
  loadInPlace : InputState
  pilePresent : InputState
  reamHeld : InputState
  liftPresent : InputState
  pusherHome : InputState
  hydReady : InputState
  turnerDone : InputState
  liftDone : InputState
deriving DecidableEq, Repr

/-! ### The Fault Register (chapter 10) -/

/-- The eleven fault kinds, in the order of R170. -/
inductive FaultKind where
  | eStop | hydPressure | gaugePosition | encoderStall | referenceFail | noStack | plateRemoved | jogFailed
  | transferTimeout | pileBad | motionTimeout
deriving DecidableEq, Repr

/-- The fault set (R169): each kind latched or not. -/
structure FaultSet where
  eStop : Bool
  hydPressure : Bool
  gaugePosition : Bool
  encoderStall : Bool
  referenceFail : Bool
  noStack : Bool
  plateRemoved : Bool
  jogFailed : Bool
  transferTimeout : Bool
  pileBad : Bool
  motionTimeout : Bool
deriving DecidableEq, Repr

/-! ### The Constant Store (chapter 11) -/

/-- The machine constants 1 to 25 (R177). -/
structure Consts where
  gmax : Nat
  knife : Nat
  gminStd : Nat
  gminNarrow : Nat
  hmax : Nat
  kc : Int
  backlash : Nat
  wPos : Nat
  settle : Nat
  ph : Nat
  smin : Nat
  parkClearance : Nat
  widthTolerance : Nat
  na : Nat
  res : Nat
  edges : EdgeCounts
  transferLimit : Nat
  agingLimit : Nat
  nfSafety : Nat
  nfOperator : Nat
  nfMachine : Nat
deriving DecidableEq, Repr

/-- The record and the new value of a store write (R181). -/
inductive WriteTarget where
  | const (n : Nat) (v : Int)
  | cls (n : Nat) (c : PaperClass)
deriving DecidableEq, Repr

/-- The write in flight, with the KIND and TAG of the request its reply answers (R181). -/
structure StoreWrite where
  target : WriteTarget
  kind : Byte
  tag : Byte
  timer : Timer
deriving DecidableEq, Repr

inductive ResetCause where
  | power | restart
deriving DecidableEq, Repr

/-- The Constant Store: `write = none` is the store IDLE (R181). -/
structure Store where
  consts : Consts
  classes : List PaperClass
  write : Option StoreWrite
  cause : ResetCause
deriving DecidableEq, Repr

/-! ### The Cell Link (chapter 12) -/

/-- A good frame in the request queue (R185). -/
structure Frame where
  kind : Byte
  tag : Byte
  body : List Byte
deriving DecidableEq, Repr

/-- The reply statuses, in the order of their codes (R186). -/
inductive Status where
  | ok | busy | protected_ | range | unknown | tableFull | noJob | duplicate | queueFull
deriving DecidableEq, Repr

/-- A reply (R186): the request's KIND and TAG, the status, the field number and the data of an OK reply. -/
structure Reply where
  kind : Byte
  tag : Byte
  status : Status
  field : Nat
  data : List Byte
deriving DecidableEq, Repr

inductive StepKind where
  | cut | turn | recall | take | reference
deriving DecidableEq, Repr

inductive StepResult where
  | done | aborted
deriving DecidableEq, Repr

/-- The stations of a WAIT notice CLEARANCE (section 12.6). -/
inductive Station where
  | runner | infeed | jogger
deriving DecidableEq, Repr

/-- What a WAIT notice names (section 12.6). -/
inductive WaitFor where
  | pile (job : Nat)
  | plate
  | stepOk (kind : StepKind)
  | mismatch (expected measured : Nat)
  | inspect
  | clearance (station : Station)
  | jogOk
deriving DecidableEq, Repr

/-- A notice's content, by class (R190, section 12.6). -/
inductive Notice where
  | job (number : Nat) (state : JobState) (reason : JobReason)
  | lift (job lift : Nat) (tally : Tally)
  | step (job lift index : Nat) (kind : StepKind) (result : StepResult) (move : MoveResult)
  | fault (set : FaultSet)
  | wait (what : WaitFor)
deriving DecidableEq, Repr

inductive NoticeClass where
  | job | lift | step | fault | wait
deriving DecidableEq, Repr

inductive NoticeMode where
  | off | once | every
deriving DecidableEq, Repr

/-- A notice class's mode and armed mark (R190). -/
structure ClassMode where
  mode : NoticeMode
  armed : Bool
deriving DecidableEq, Repr

structure NoticeModes where
  job : ClassMode
  lift : ClassMode
  step : ClassMode
  fault : ClassMode
  wait : ClassMode
deriving DecidableEq, Repr

/-- A notice in the queue with its number (R191). -/
structure QueuedNotice where
  number : Word16
  notice : Notice
deriving DecidableEq, Repr

inductive RxState where
  | hunt | header | body | check
deriving DecidableEq, Repr

/-- The receiver (R184) with the frame in progress. -/
structure Receiver where
  state : RxState
  bad : Bool
  header : List Byte
  body : List Byte
  check : List Byte
  gap : Timer
deriving DecidableEq, Repr

/-- What the transmitter is sending (R192): nothing, the reply at the head of the reply list, or a notice. -/
inductive Transmitter where
  | idle
  | reply
  | notice (n : QueuedNotice)
deriving DecidableEq, Repr

/-- A byte on the receive line, with its framing or noise error (R184). -/
structure RxByte where
  byte : Byte
  error : Bool
deriving DecidableEq, Repr

/-- The Cell Link. `restart` holds the TAG of a RESTART served and `restartDeferred` says that its reply waits for a
write's completion (R189). `line` are bytes received and not yet taken, the model's own field (log 5). -/
structure Link where
  rx : Receiver
  requests : List Frame
  replies : List Reply
  notices : List QueuedNotice
  number : Word16
  modes : NoticeModes
  overflow : Bool
  tx : Transmitter
  txTimer : Timer
  restart : Option Byte
  restartDeferred : Bool
  line : List RxByte
deriving DecidableEq, Repr

/-! ### The whole part -/

/-- What the field shows the part in one coming millisecond (log 5): the switch inputs (R164), the signals on the height and
width channels (R167), the pulses on the edge channels, the bytes received, and the other events of that millisecond. -/
structure Sample where
  contacts : Contacts
  signals : Signals
  pulses : EdgeCounts
  bytes : List RxByte
  events : List Instr
deriving DecidableEq, Repr

/-- The part. `free` numbers the free values (log 22), `pending` is the queue of waiting commands and `tape` the field's
coming samples; these three are the model's own fields. -/
structure State where
  link : Link
  jobs : List JobEntry
  admission : Nat
  planner : Option PlanOp
  bankA : Bank
  bankB : Bank
  runner : Runner
  gauge : Gauge
  cycle : Cycle
  infeed : Infeed
  jogger : Jogger
  arbiter : Arbiter
  inputs : Inputs
  channels : Channels
  faults : FaultSet
  store : Store
  free : Nat
  pending : List Instr
  tape : List Sample
deriving DecidableEq, Repr

/-- Why a command stops the part for good: never. Every one of the 66 commands has an effect in every state, so this
type is closed and empty: no one raises it (safe). The part's own eleven faults are `FaultKind`, latched in State. -/
inductive Fault where
deriving DecidableEq, Repr

/-- Why a command has no meaning in the model. -/
inductive Refusal where
  /-- Raised by `exec`'s arm of a command without a meaning yet; no arm does (safe). -/
  | notModelled (mnemonic : String)
deriving DecidableEq, Repr

/-! ### Power-on reset of a new module -/

/-- A timer that does not run. -/
def Timer.stopped : Timer := ⟨false, 0, 0⟩

/-- The default paper class (R178). -/
def PaperClass.default : PaperClass := ⟨10, 4, 300, 2, 20⟩

/-- The default machine constants (R177). -/
def Consts.default : Consts where
  gmax := 115000
  knife := 115000
  gminStd := 3000
  gminNarrow := 1200
  hmax := 1650
  kc := 0
  backlash := 200
  wPos := 3
  settle := 150
  ph := 118000
  smin := 300
  parkClearance := 500
  widthTolerance := 100
  na := 4
  res := 12
  edges := ⟨32768, 32768, 32768, 32768, 32768⟩
  transferLimit := 80
  agingLimit := 60
  nfSafety := 3
  nfOperator := 10
  nfMachine := 2

/-- The Constant Store of a new module at its first power-on (R177, R178, R181, R182). -/
def Store.new : Store where
  consts := Consts.default
  classes := List.replicate 16 PaperClass.default
  write := none
  cause := .power

/-- An EMPTY bank (R35). -/
def Bank.cleared : Bank := ⟨none, .empty, 0, [], none⟩

/-- A lift tally of zeros (R16). -/
def Tally.zero : Tally := ⟨0, 0, 0, 0, 0⟩

/-- No fault latched (R169). -/
def FaultSet.none : FaultSet := ⟨false, false, false, false, false, false, false, false, false, false, false⟩

/-- The receiver in HUNT (R184). -/
def Receiver.hunting : Receiver := ⟨.hunt, false, [], [], [], Timer.stopped⟩

/-- The notice modes after either reset (R190). -/
def NoticeModes.reset : NoticeModes :=
  ⟨⟨.every, true⟩, ⟨.every, true⟩, ⟨.off, true⟩, ⟨.every, true⟩, ⟨.every, true⟩⟩

/-- The Cell Link after either reset, before any notice is queued (R184, R186, R190, R191, R192). -/
def Link.reset (line : List RxByte) : Link where
  rx := Receiver.hunting
  requests := []
  replies := []
  notices := []
  number := 0
  modes := NoticeModes.reset
  overflow := false
  tx := .idle
  txTimer := Timer.stopped
  restart := none
  restartDeferred := false
  line := line

/-- The Program Runner after either reset (R59). -/
def Runner.reset : Runner where
  state := .clearance
  lift := none
  ended := none
  stepIndex := 0
  phase := none
  hold := false
  firstOff := false
  park := none
  moveResult := none
  working := none
  cutoff := none
  aside := []
  tally := Tally.zero
  asked := none
  takeOk := false
  faultBack := false
  lastDone := false

/-- The Gauge Axis after a reset (R81): the reference and the position are kept by a restart and lost at power-on. Gmin_std is
taken as the store holds it at the reset (log 19), and no travel has been commanded (R102). -/
def Gauge.reset (valid : Bool) (position : Int) (gminStd : Nat) : Gauge where
  state := if valid then .idle else .unreferenced
  phase := none
  valid := valid
  position := position
  move := none
  pendingMove := none
  corrective := 0
  last := none
  refRun := none
  settleTimer := Timer.stopped
  searchTimer := Timer.stopped
  stallTimer := Timer.stopped
  clearTimer := Timer.stopped
  gminStd := gminStd
  driven := false

/-- The Cut Cycle unit after either reset (R103); `top`: KNIFE_TOP and CLAMP_TOP are both active. -/
def Cycle.reset (top : Bool) : Cycle where
  state := if top then .ready else .returnNeeded
  purpose := none
  returnState := .ready
  entryPassed := false
  counted := false
  height := none
  lastHeight := 0
  pressureStep := 4
  dwell := 300
  faulted := false
  monitor := .spent
  windowTimer := Timer.stopped
  dwellTimer := Timer.stopped

/-- The Infeed after either reset (R124); `occupied`: PILE_PRESENT or REAM_HELD is active. -/
def Infeed.reset (occupied : Bool) : Infeed where
  turner := if occupied then .clearance else .empty
  called := none
  rejected := false
  pileLost := false
  pile := none
  motions := []
  lift := if occupied then .clearance else .idle
  held := none
  returnOwed := true
  failedPicks := 0
  turnerTimer := Timer.stopped
  liftTimer := Timer.stopped
  pickHeight := none
  turnerOrphan := none
  liftOrphan := none
  unclamped := false
  clearReturn := false
  returnJob := none

/-- The Jogger after either reset (R141); `occupied`: LIFT_PRESENT is active; `home`: PUSHER_HOME is active. -/
def Jogger.reset (occupied home broken : Bool) : Jogger where
  state := if occupied then .clearance else .empty
  lift := none
  receivingFor := none
  intensity := 0
  rejogUsed := false
  jogTimer := Timer.stopped
  pass := 0
  lastScan := none
  scan := none
  phase := .none
  transferTimer := Timer.stopped
  pusher := if occupied || home then .hold else .back
  paused := broken && !(occupied || home)
  clearTimer := Timer.stopped

/-- The Hydraulic Arbiter after either reset (R157). -/
def Arbiter.reset (hydReady : Bool) : Arbiter := ⟨if hydReady then .free else .unavailable, none, none, none, none⟩

/-- An input seeded from its first sample: the filtered state takes the raw state, the counter is 0 (R165). -/
def InputState.seeded (level : Bool) : InputState := ⟨level, level, 0, false⟩

/-- Every switch input inactive (DESIGN CHOICE, unsafe, log 2). -/
def Inputs.quiet : Inputs :=
  let off := InputState.seeded false
  ⟨off, off, off, off, off, off, off, off, off, off, off, off, off, off, off, off, off, off, off, off, off, off, off⟩

/-- The part right after the first power-on reset of a new module, with every switch input inactive and every channel at
0 at the first sample (DESIGN CHOICE, log 2): KNIFE_TOP and CLAMP_TOP inactive give RETURN_NEEDED (R103), HYD_READY
inactive gives UNAVAILABLE (R157), PUSHER_HOME inactive sends the pusher BACK (R141). The two-hand monitor, SPENT at
the reset, is IDLE at once because both hand inputs are inactive (R120, log 9). The Runner's WAIT notice CLEARANCE (R59)
is notice 0, and the idle transmitter is sending its 11 bytes (R192, log 8): 2 ms, rounded up (log 24). -/
def State.reset : State where
  link :=
    { Link.reset [] with
      number := 1
      tx := .notice ⟨0, .wait (.clearance .runner)⟩
      txTimer := ⟨true, 0, 2⟩ }
  jobs := []
  admission := 0
  planner := none
  bankA := Bank.cleared
  bankB := Bank.cleared
  runner := Runner.reset
  gauge := Gauge.reset false 0 Consts.default.gminStd
  cycle := { Cycle.reset false with monitor := .idle }
  infeed := Infeed.reset false
  jogger := Jogger.reset false false false
  arbiter := Arbiter.reset false
  inputs := Inputs.quiet
  channels := ⟨0, 0, 0, 0⟩
  faults := FaultSet.none
  store := Store.new
  free := 0
  pending := []
  tape := []

end Sys2Proof.Machine
end

