-- ==== Sys2Proof/Machine/Limits.lean ====
section
/-! DEFINITION. The fixed times and limits of the manual, in milliseconds unless said, and how a timer runs. -/
namespace Sys2Proof.Machine

/-- R120, R121: the two hand buttons must be pressed within 500 ms of each other. -/
def windowMs : Nat := 500

/-- R94, R152: CURTAIN must be clear for 500 ms before a paused motion resumes. -/
def clearMs : Nat := 500

/-- R84, R85: the search limit of a reference run. -/
def searchMs : Nat := 30000

/-- R97: commanded travel without an encoder change for 200 ms is a stall. -/
def stallMs : Nat := 200

/-- R125: the motion timer of an Infeed unit. -/
def motionMs : Nat := 20000

/-- R145: an edge scan. -/
def scanMs : Nat := 25

/-- R41: a planning operation ends within 50 ms of its start. -/
def planMs : Nat := 50

/-- R181: a store write completes within 100 ms. -/
def writeMs : Nat := 100

/-- R184: a gap of MORE than 10 ms discards the frame in progress: the eleventh whole millisecond (log 25). -/
def gapMs : Nat := 11

/-- R185: the request queue never holds more than 4 frames. -/
def maxRequests : Nat := 4

/-- R186: a request is served only while the reply list holds fewer than 3 replies. -/
def serveReplies : Nat := 3

/-- R191: the notice queue has room for 32 notices. -/
def maxNotices : Nat := 32

/-- R22: the Job Table never holds more than 8 jobs. -/
def maxJobs : Nat := 8

/-- R131: a pile is divided into at most 64 lifts. -/
def maxLifts : Nat := 64

/-- R44, R54: a bank holds at most 255 steps. -/
def maxSteps : Nat := 255

/-- R13, R44: the Aside List holds at most 16 records. -/
def maxAside : Nat := 16

/-- R107: a clamp-height reading above 16,000 tenths is recorded as 16,000. -/
def maxHeight : Nat := 16000

/-- R108: the clamp is at the bottom at 10 tenths or less. -/
def clampBottomTenths : Nat := 10

/-- R127, R132: pile-top readings from 50 tenths count as a pile. -/
def minPile : Nat := 50

/-- R127: the tallest pile the Infeed accepts. -/
def maxPile : Nat := 16000

/-- R92, R93: at most two corrective moves. -/
def maxCorrective : Nat := 2

/-- A timer started from zero against a limit. -/
def Timer.start (limit : Nat) : Timer := ⟨true, 0, limit⟩

/-- A timer stopped with what it has counted. -/
def Timer.halt (t : Timer) : Timer := { t with running := false }

/-- A suspended timer that runs on from where it stood. -/
def Timer.carryOn (t : Timer) : Timer := { t with running := true }

/-- A timer restarted from zero if it runs (the stall watch at an encoder change, R97). -/
def Timer.rewind (t : Timer) : Timer := { t with elapsed := 0 }

/-- A timer that has reached its limit is taken as expired: it stands at the limit, stopped (log 7). -/
def Timer.expire (t : Timer) : Timer := { t with running := false, elapsed := t.limit }

/-- One millisecond of a running timer; it waits at its limit for its expiry to be taken. -/
def Timer.tick (t : Timer) : Timer :=
  if t.running then { t with elapsed := min (t.elapsed + 1) t.limit } else t

/-- The timer runs and has reached its limit. -/
def Timer.due (t : Timer) : Bool := t.running && t.limit ≤ t.elapsed

end Sys2Proof.Machine
end

