-- ==== Sys2Proof/Machine/Update.lean ====
section
/-! DEFINITION. The named updates of State, one for each field: every operation of the part writes State through these. -/
namespace Sys2Proof.Machine

/-- `s` with its field `link` replaced. -/
def State.setLink (s : State) (x : Link) : State := { s with link := x }

/-- `s` with its field `jobs` replaced. -/
def State.setJobs (s : State) (x : List JobEntry) : State := { s with jobs := x }

/-- `s` with its field `admission` replaced. -/
def State.setAdmission (s : State) (x : Nat) : State := { s with admission := x }

/-- `s` with its field `planner` replaced. -/
def State.setPlanner (s : State) (x : Option PlanOp) : State := { s with planner := x }

/-- `s` with its field `bankA` replaced. -/
def State.setBankA (s : State) (x : Bank) : State := { s with bankA := x }

/-- `s` with its field `bankB` replaced. -/
def State.setBankB (s : State) (x : Bank) : State := { s with bankB := x }

/-- `s` with its field `runner` replaced. -/
def State.setRunner (s : State) (x : Runner) : State := { s with runner := x }

/-- `s` with its field `gauge` replaced. -/
def State.setGauge (s : State) (x : Gauge) : State := { s with gauge := x }

/-- `s` with its field `cycle` replaced. -/
def State.setCycle (s : State) (x : Cycle) : State := { s with cycle := x }

/-- `s` with its field `infeed` replaced. -/
def State.setInfeed (s : State) (x : Infeed) : State := { s with infeed := x }

/-- `s` with its field `jogger` replaced. -/
def State.setJogger (s : State) (x : Jogger) : State := { s with jogger := x }

/-- `s` with its field `arbiter` replaced. -/
def State.setArbiter (s : State) (x : Arbiter) : State := { s with arbiter := x }

/-- `s` with its field `inputs` replaced. -/
def State.setInputs (s : State) (x : Inputs) : State := { s with inputs := x }

/-- `s` with its field `channels` replaced. -/
def State.setChannels (s : State) (x : Channels) : State := { s with channels := x }

/-- `s` with its field `faults` replaced. -/
def State.setFaults (s : State) (x : FaultSet) : State := { s with faults := x }

/-- `s` with its field `store` replaced. -/
def State.setStore (s : State) (x : Store) : State := { s with store := x }

/-- `s` with its field `free` replaced. -/
def State.setFree (s : State) (x : Nat) : State := { s with free := x }

/-- `s` with its field `pending` replaced. -/
def State.setPending (s : State) (x : List Instr) : State := { s with pending := x }

/-- `s` with its field `tape` replaced. -/
def State.setTape (s : State) (x : List Sample) : State := { s with tape := x }

end Sys2Proof.Machine
end

