-- ==== Sys2Proof/Machine/Flags.lean ====
section
/-! DEFINITION. The fault set and what is read from it (R169 to R176), the filtered inputs (R164), and the two handover
holds (R150): the part's derived indications. -/
namespace Sys2Proof.Machine

/-- Whether a kind is latched. -/
def FaultSet.has (f : FaultSet) (k : FaultKind) : Bool :=
  match k with
  | .eStop => f.eStop
  | .hydPressure => f.hydPressure
  | .gaugePosition => f.gaugePosition
  | .encoderStall => f.encoderStall
  | .referenceFail => f.referenceFail
  | .noStack => f.noStack
  | .plateRemoved => f.plateRemoved
  | .jogFailed => f.jogFailed
  | .transferTimeout => f.transferTimeout
  | .pileBad => f.pileBad
  | .motionTimeout => f.motionTimeout

/-- The set with a kind latched or not. -/
def FaultSet.put (f : FaultSet) (k : FaultKind) (b : Bool) : FaultSet :=
  match k with
  | .eStop => { f with eStop := b }
  | .hydPressure => { f with hydPressure := b }
  | .gaugePosition => { f with gaugePosition := b }
  | .encoderStall => { f with encoderStall := b }
  | .referenceFail => { f with referenceFail := b }
  | .noStack => { f with noStack := b }
  | .plateRemoved => { f with plateRemoved := b }
  | .jogFailed => { f with jogFailed := b }
  | .transferTimeout => { f with transferTimeout := b }
  | .pileBad => { f with pileBad := b }
  | .motionTimeout => { f with motionTimeout := b }

/-- R170, R173: a STOP-class fault is latched. -/
def FaultSet.stop (f : FaultSet) : Bool := f.eStop || f.hydPressure

/-- R64, R174: a guillotine station fault is latched. -/
def FaultSet.guillotine (f : FaultSet) : Bool :=
  f.gaugePosition || f.encoderStall || f.referenceFail || f.noStack || f.plateRemoved || f.transferTimeout

/-- R174: a jogger station fault is latched. -/
def FaultSet.jogger (f : FaultSet) : Bool := f.jogFailed || f.transferTimeout

/-- R125, R174: an Infeed station fault is latched. -/
def FaultSet.infeed (f : FaultSet) : Bool := f.pileBad || f.motionTimeout

/-- R98: one of the Gauge Axis's own three faults is latched. -/
def FaultSet.axis (f : FaultSet) : Bool := f.gaugePosition || f.encoderStall || f.referenceFail

/-- R170: the kind is of STOP class. -/
def FaultKind.isStop (k : FaultKind) : Bool :=
  match k with
  | .eStop | .hydPressure => true
  | .gaugePosition | .encoderStall | .referenceFail | .noStack | .plateRemoved | .jogFailed | .transferTimeout
  | .pileBad | .motionTimeout => false

/-- R64: the kind is a guillotine station fault. -/
def FaultKind.isGuillotine (k : FaultKind) : Bool :=
  match k with
  | .gaugePosition | .encoderStall | .referenceFail | .noStack | .plateRemoved | .transferTimeout => true
  | .eStop | .hydPressure | .jogFailed | .pileBad | .motionTimeout => false

/-- R125: the kind is an Infeed station fault. -/
def FaultKind.isInfeed (k : FaultKind) : Bool :=
  match k with
  | .pileBad | .motionTimeout => true
  | .eStop | .hydPressure | .gaugePosition | .encoderStall | .referenceFail | .noStack | .plateRemoved | .jogFailed
  | .transferTimeout => false

/-- One input's record at the Conditioner. -/
def Inputs.get (i : Inputs) (x : Switch) : InputState :=
  match x with
  | .curtain => i.curtain
  | .eStop => i.eStop
  | .handL => i.handL
  | .handR => i.handR
  | .stepOk => i.stepOk
  | .jogOk => i.jogOk
  | .resetBtn => i.resetBtn
  | .serviceKey => i.serviceKey
  | .homeSwitch => i.homeSwitch
  | .knifeTop => i.knifeTop
  | .knifeBottom => i.knifeBottom
  | .clampTop => i.clampTop
  | .clampPressure => i.clampPressure
  | .plateFitted => i.plateFitted
  | .frontClear => i.frontClear
  | .loadInPlace => i.loadInPlace
  | .pilePresent => i.pilePresent
  | .reamHeld => i.reamHeld
  | .liftPresent => i.liftPresent
  | .pusherHome => i.pusherHome
  | .hydReady => i.hydReady
  | .turnerDone => i.turnerDone
  | .liftDone => i.liftDone

/-- The inputs with one input's record replaced. -/
def Inputs.put (i : Inputs) (x : Switch) (v : InputState) : Inputs :=
  match x with
  | .curtain => { i with curtain := v }
  | .eStop => { i with eStop := v }
  | .handL => { i with handL := v }
  | .handR => { i with handR := v }
  | .stepOk => { i with stepOk := v }
  | .jogOk => { i with jogOk := v }
  | .resetBtn => { i with resetBtn := v }
  | .serviceKey => { i with serviceKey := v }
  | .homeSwitch => { i with homeSwitch := v }
  | .knifeTop => { i with knifeTop := v }
  | .knifeBottom => { i with knifeBottom := v }
  | .clampTop => { i with clampTop := v }
  | .clampPressure => { i with clampPressure := v }
  | .plateFitted => { i with plateFitted := v }
  | .frontClear => { i with frontClear := v }
  | .loadInPlace => { i with loadInPlace := v }
  | .pilePresent => { i with pilePresent := v }
  | .reamHeld => { i with reamHeld := v }
  | .liftPresent => { i with liftPresent := v }
  | .pusherHome => { i with pusherHome := v }
  | .hydReady => { i with hydReady := v }
  | .turnerDone => { i with turnerDone := v }
  | .liftDone => { i with liftDone := v }

/-- All switch inputs, in the order of R164. -/
def allSwitches : List Switch :=
  [.curtain, .eStop, .handL, .handR, .stepOk, .jogOk, .resetBtn, .serviceKey, .homeSwitch, .knifeTop, .knifeBottom,
   .clampTop, .clampPressure, .plateFitted, .frontClear, .loadInPlace, .pilePresent, .reamHeld, .liftPresent,
   .pusherHome, .hydReady, .turnerDone, .liftDone]

/-- The filtered state of an input: what "active" means without the word "raw" (00_scope.md, Names). -/
def State.on (s : State) (x : Switch) : Bool := (s.inputs.get x).filtered

/-- A filtered change (R165): raw and filtered state take the level and the counter becomes 0 (log 4). A level that the
filtered state already has is no change. -/
def State.sense (s : State) (x : Switch) (level : Bool) : State :=
  s.setInputs (if s.on x = level then s.inputs else s.inputs.put x (InputState.seeded level))

/-- A stop is in force (R173). -/
def State.stop (s : State) : Bool := s.faults.stop

/-- The guillotine's halt is in force (R174). -/
def State.guillotineHalt (s : State) : Bool := s.faults.guillotine

/-- The Infeed's halt is in force (R174). -/
def State.infeedHalt (s : State) : Bool := s.faults.infeed

/-- The jogger hold is released while the Jogger is ALIGNED and PUSHER_HOME is active (R150). -/
def State.joggerHoldReleased (s : State) : Bool := s.jogger.state = .aligned && s.on .pusherHome

/-- The table hold is released while its five conditions hold together (R150). -/
def State.tableHoldReleased (s : State) : Bool :=
  s.runner.state = .idle && s.runner.aside.isEmpty && s.on .frontClear &&
    (match s.runner.park, s.jogger.lift with
     | some p, some l => p.job = l.job && p.lift = l.lift
     | _, _ => false) &&
    !s.stop

end Sys2Proof.Machine
end

