-- ==== Sys2Proof/Machine/Inputs.lean ====
section
/-! DEFINITION. The Input Conditioner: the raw levels of a sample (R164), the stable count and the filter (R164 to R166), and
the conversion of the height and width channels (R167). -/
namespace Sys2Proof.Machine

/-! ### Raw levels (R164) -/

/-- The raw state of E_STOP: open when either channel is open, released when both are closed (R164). -/
def eStopRaw (e : EStopChannels) : Bool := e.one || e.two

/-- The raw state that a sample shows of an input: E_STOP by its two channels, every other by the active inputs (R164). -/
def rawLevel (c : Contacts) (x : Switch) : Bool := if x = .eStop then eStopRaw c.eStop else c.active.contains x

/-! ### The conversion of a channel (R167) -/

/-- 10 V in nanovolts, the unit of `Signals`. -/
def fullScale : Nat := 10000000000

/-- The top of the range of a height channel, in tenths (R167). -/
def heightTop : Nat := 20000

/-- The top of the range of the width probe, in hundredths (R167). -/
def widthTop : Nat := 160000

/-- The reading of a signal (R167): 0 V converts to 0 and 10 V to the top of the range, in proportion; below 0 V reads 0 and above
10 V reads the top. Which whole number a signal between two readings gives is a free value (log 43). -/
def convert (top : Nat) (signal : Int) : Nat :=
  if signal ≤ 0 then 0
  else if (fullScale : Int) ≤ signal then top
  else
    let scaled := signal.toNat * top
    scaled / fullScale + (if scaled % fullScale ≠ 0 && Config.conversionRoundsUp top signal then 1 else 0)

/-- The four channels converted (R167). -/
def readSignals (v : Signals) : Channels where
  pileTop := convert heightTop v.pileTop
  clampHeight := convert heightTop v.clampHeight
  knifeHeight := convert heightTop v.knifeHeight
  widthProbe := convert widthTop v.widthProbe

/-! ### The coming sample -/

/-- The raw level that the coming sample shows of an input; with an empty tape the level stands (log 5). -/
def State.comingLevel (s : State) (x : Switch) : Bool :=
  match s.tape with
  | [] => (s.inputs.get x).raw
  | y :: _ => rawLevel y.contacts x

/-- The readings that the coming sample converts; with an empty tape they stand (log 5). -/
def State.comingReadings (s : State) : Channels :=
  match s.tape with
  | [] => s.channels
  | y :: _ => readSignals y.signals

/-! ### The filter (R164 to R166) -/

/-- The stable count NF of an input's group (R164). -/
def stableCount (c : Consts) (x : Switch) : Nat :=
  match x with
  | .curtain | .eStop => c.nfSafety
  | .handL | .handR | .stepOk | .jogOk | .resetBtn | .serviceKey => c.nfOperator
  | .homeSwitch | .knifeTop | .knifeBottom | .clampTop | .clampPressure | .plateFitted | .frontClear | .loadInPlace
  | .pilePresent | .reamHeld | .liftPresent | .pusherHome | .hydReady | .turnerDone | .liftDone => c.nfMachine

/-- One sample of an input (R165). Equal states clear the counter. Different ones count, and at NF samples the filtered state
is to take the raw state; an opening of E_STOP does so at once (`opens`, R166). The change is made here where the table has
no row for it (log 37), and is left due for its command where it has one (`rowed`, log 44). -/
def InputState.sample (i : InputState) (raw : Bool) (nf : Nat) (opens rowed : Bool) : InputState :=
  if raw = i.filtered then ⟨raw, i.filtered, 0, false⟩
  else
    let count := min (i.count + 1) 15
    let changes := nf ≤ count || opens
    if changes && !rowed then InputState.seeded raw else ⟨raw, i.filtered, count, changes⟩

end Sys2Proof.Machine
end

