-- ==== Sys2Proof/Machine/Operands.lean ====
section
/-! DEFINITION. The operands of the requests: little-endian fields, the CRC (R183), the job record (R18, section 12.6), the
paper-class record (R178, R187) and the machine constants by number (R177). -/
namespace Sys2Proof.Machine

/-- The low `size` bytes of a number, least significant first (00_scope.md: multi-byte fields are little-endian). -/
def leBytes (size : Nat) (v : Nat) : List Byte :=
  match size with
  | 0 => []
  | k + 1 => BitVec.ofNat 8 v :: leBytes k (v / 256)

/-- The number a little-endian field holds. -/
def leNat (bs : List Byte) : Nat :=
  match bs with
  | [] => 0
  | b :: rest => b.toNat + 256 * leNat rest

/-- A signed four-byte field (R187: the value of CONST_SET; section 12.6: positions). -/
def leInt (v : Int) : List Byte := leBytes 4 (BitVec.ofInt 32 v).toNat

/-- The field of `size` bytes at offset `off` of a body. -/
def fieldAt (body : List Byte) (off size : Nat) : Nat := leNat ((body.drop off).take size)

/-- The same field read as a signed four-byte number. -/
def signedAt (body : List Byte) (off : Nat) : Int := (BitVec.ofNat 32 (fieldAt body off 4)).toInt

/-! ### The CRC (R183) -/

/-- One shift to the right; if the bit shifted out was 1, an exclusive OR with A001h. -/
def crcShift (r : Word16) : Word16 :=
  if r.getLsbD 0 then (r >>> 1) ^^^ 0xA001#16 else r >>> 1

/-- `n` shifts. -/
def crcShifts (n : Nat) (r : Word16) : Word16 :=
  match n with
  | 0 => r
  | k + 1 => crcShifts k (crcShift r)

/-- A byte combined into the register's low byte, then 8 shifts. -/
def crcByte (r : Word16) (b : Byte) : Word16 := crcShifts 8 (r ^^^ b.setWidth 16)

/-- The register over the covered bytes, from FFFFh, with no final exclusive OR. -/
def crcOf (bytes : List Byte) : Word16 := bytes.foldl crcByte 0xFFFF#16

/-- The CRC of a frame: over KIND, TAG, LEN and BODY (R183). -/
def frameCrc (kind tag : Byte) (body : List Byte) : Word16 :=
  crcOf (kind :: tag :: BitVec.ofNat 8 body.length :: body)

/-- A whole frame as bytes (R183). -/
def frameBytes (kind tag : Byte) (body : List Byte) : List Byte :=
  0xC3#8 :: kind :: tag :: BitVec.ofNat 8 body.length :: body ++ leBytes 2 (frameCrc kind tag body).toNat

/-! ### The job record (R18, section 12.6) -/

/-- The code of an edge (section 12.6). -/
def Edge.code (e : Edge) : Nat :=
  match e with
  | .grip => 0 | .tail => 1 | .lay => 2 | .off => 3

/-- The edge of a code (section 12.6); codes above 3 name none and are out of range (R20). -/
def edgeOf (n : Nat) : Edge :=
  match n with
  | 0 => .grip | 1 => .tail | 2 => .lay | _ => .off

/-- The code of a face (section 12.6). -/
def Face.code (f : Face) : Nat :=
  match f with
  | .up => 0 | .down => 1

/-- The face of a code (section 12.6); codes above 1 name none and are out of range (R20). -/
def faceOf (n : Nat) : Face :=
  match n with
  | 0 => .up | _ => .down

/-- Offset and size of job record field `no` (section 12.6). -/
def jobFieldSpan (no : Nat) : Nat × Nat :=
  match no with
  | 1 => (0, 2) | 2 => (2, 1) | 3 => (3, 1) | 4 => (4, 1) | 5 => (5, 1) | 6 => (6, 4) | 7 => (10, 4) | 8 => (14, 1)
  | 9 => (15, 4) | 10 => (19, 2) | 11 => (21, 1) | 12 => (22, 4) | 13 => (26, 2) | 14 => (28, 2) | 15 => (30, 2)
  | 16 => (32, 2) | 17 => (34, 1) | _ => (35, 1)

/-- The code that field `no` carries in a SUBMIT body. -/
def jobField (body : List Byte) (no : Nat) : Nat := fieldAt body (jobFieldSpan no).1 (jobFieldSpan no).2

/-- The least and the greatest code of field `no`, with Hmax as the store holds it (R18). Field 17 carries 0 for absent and
field 18 carries 0 or 1 (section 12.6). -/
def jobFieldRange (hmax no : Nat) : Nat × Nat :=
  match no with
  | 1 => (1, 65535) | 2 => (0, 7) | 3 => (0, 15) | 4 => (0, 3) | 5 => (0, 1) | 6 => (5000, 160000) | 7 => (5000, 160000)
  | 8 => (1, 32) | 9 => (500, 160000) | 10 => (0, 10000) | 11 => (1, 32) | 12 => (500, 160000) | 13 => (0, 10000)
  | 14 => (0, 20000) | 15 => (0, 20000) | 16 => (100, hmax) | 17 => (0, 64) | _ => (0, 1)

/-- The code of field `no` lies in its range. -/
def jobFieldOk (hmax : Nat) (body : List Byte) (no : Nat) : Bool :=
  (jobFieldRange hmax no).1 ≤ jobField body no && jobField body no ≤ (jobFieldRange hmax no).2

/-- The first field, in field order, found out of range (R20). -/
def firstBadField (hmax : Nat) (body : List Byte) : Option Nat :=
  (List.range' 1 18).find? fun no => !jobFieldOk hmax body no

/-- The job record of a SUBMIT body whose fields are in range. -/
def jobOfBody (body : List Byte) : JobRecord where
  number := jobField body 1
  priority := jobField body 2
  paperClass := jobField body 3
  rear := edgeOf (jobField body 4)
  face := faceOf (jobField body 5)
  sheetL := jobField body 6
  sheetW := jobField body 7
  nr := jobField body 8
  pl := jobField body 9
  gl := jobField body 10
  nc := jobField body 11
  pw := jobField body 12
  gw := jobField body 13
  trimGrip := jobField body 14
  trimLay := jobField body 15
  liftHeight := jobField body 16
  fixedCount := if jobField body 17 = 0 then none else some (jobField body 17)
  firstOff := jobField body 18 = 1

/-- The SUBMIT body of a job record: the layout of section 12.6, 36 bytes. -/
def bodyOfJob (r : JobRecord) : List Byte :=
  leBytes 2 r.number ++ leBytes 1 r.priority ++ leBytes 1 r.paperClass ++ leBytes 1 r.rear.code ++ leBytes 1 r.face.code
    ++ leBytes 4 r.sheetL ++ leBytes 4 r.sheetW ++ leBytes 1 r.nr ++ leBytes 4 r.pl ++ leBytes 2 r.gl ++ leBytes 1 r.nc
    ++ leBytes 4 r.pw ++ leBytes 2 r.gw ++ leBytes 2 r.trimGrip ++ leBytes 2 r.trimLay ++ leBytes 2 r.liftHeight
    ++ leBytes 1 (r.fixedCount.getD 0) ++ leBytes 1 (if r.firstOff then 1 else 0)

/-- Every field of a job record lies in its range of R18, Hmax as given. -/
def JobRecord.inRange (hmax : Nat) (r : JobRecord) : Bool :=
  1 ≤ r.number && r.number ≤ 65535 && r.priority ≤ 7 && r.paperClass ≤ 15 && 5000 ≤ r.sheetL && r.sheetL ≤ 160000
    && 5000 ≤ r.sheetW && r.sheetW ≤ 160000 && 1 ≤ r.nr && r.nr ≤ 32 && 500 ≤ r.pl && r.pl ≤ 160000 && r.gl ≤ 10000
    && 1 ≤ r.nc && r.nc ≤ 32 && 500 ≤ r.pw && r.pw ≤ 160000 && r.gw ≤ 10000 && r.trimGrip ≤ 20000 && r.trimLay ≤ 20000
    && 100 ≤ r.liftHeight && r.liftHeight ≤ hmax
    && (match r.fixedCount with | none => true | some n => 1 ≤ n && n ≤ 64)

/-! ### Paper classes (R178, R187) -/

/-- The paper-class record of a CLASS_SET body: class number, then the five fields, the dwell as 2 bytes (R187). -/
def classOfBody (body : List Byte) : PaperClass :=
  ⟨fieldAt body 1 1, fieldAt body 2 1, fieldAt body 3 2, fieldAt body 5 1, fieldAt body 6 1⟩

/-- The CLASS_SET body of a paper class, also the CLASS_GET data: 7 bytes (R187). -/
def bodyOfClass (n : Nat) (c : PaperClass) : List Byte :=
  leBytes 1 n ++ leBytes 1 c.draw ++ leBytes 1 c.pressure ++ leBytes 2 c.dwell ++ leBytes 1 c.intensity
    ++ leBytes 1 c.jogLimit

/-- The first of fields 2 to 6, in field order, out of its range (R178, R180). -/
def firstBadClassField (c : PaperClass) : Option Nat :=
  if 40 < c.draw then some 2
  else if c.pressure < 1 || 8 < c.pressure then some 3
  else if 2000 < c.dwell then some 4
  else if c.intensity < 1 || 4 < c.intensity then some 5
  else if c.jogLimit < 1 || 60 < c.jogLimit then some 6
  else none

/-! ### Machine constants by number (R177) -/

/-- The value of constant `n`; none outside 1..25. -/
def Consts.get (c : Consts) (n : Nat) : Option Int :=
  match n with
  | 1 => some c.gmax | 2 => some c.knife | 3 => some c.gminStd | 4 => some c.gminNarrow | 5 => some c.hmax
  | 6 => some c.kc | 7 => some c.backlash | 8 => some c.wPos | 9 => some c.settle | 10 => some c.ph
  | 11 => some c.smin | 12 => some c.parkClearance | 13 => some c.widthTolerance | 14 => some c.na | 15 => some c.res
  | 16 => some c.edges.rf1 | 17 => some c.edges.rf2 | 18 => some c.edges.rf3 | 19 => some c.edges.sf1
  | 20 => some c.edges.sf2 | 21 => some c.transferLimit | 22 => some c.agingLimit | 23 => some c.nfSafety
  | 24 => some c.nfOperator | 25 => some c.nfMachine
  | _ => none

/-- The constants with constant `n` given a new value. -/
def Consts.put (c : Consts) (n : Nat) (v : Int) : Consts :=
  let w := v.toNat
  match n with
  | 1 => { c with gmax := w } | 2 => { c with knife := w } | 3 => { c with gminStd := w }
  | 4 => { c with gminNarrow := w } | 5 => { c with hmax := w } | 6 => { c with kc := v }
  | 7 => { c with backlash := w } | 8 => { c with wPos := w } | 9 => { c with settle := w } | 10 => { c with ph := w }
  | 11 => { c with smin := w } | 12 => { c with parkClearance := w } | 13 => { c with widthTolerance := w }
  | 14 => { c with na := w } | 15 => { c with res := w }
  | 16 => { c with edges := { c.edges with rf1 := w } } | 17 => { c with edges := { c.edges with rf2 := w } }
  | 18 => { c with edges := { c.edges with rf3 := w } } | 19 => { c with edges := { c.edges with sf1 := w } }
  | 20 => { c with edges := { c.edges with sf2 := w } }
  | 21 => { c with transferLimit := w } | 22 => { c with agingLimit := w } | 23 => { c with nfSafety := w }
  | 24 => { c with nfOperator := w } | 25 => { c with nfMachine := w }
  | _ => c

/-- The range of constant `n` (R177). -/
def constRange (n : Nat) : Int × Int :=
  match n with
  | 1 | 2 => (40000, 160000)
  | 3 => (2000, 8000)
  | 4 => (800, 4000)
  | 5 => (400, 2000)
  | 6 => (-300, 300)
  | 7 => (0, 500)
  | 8 => (1, 10)
  | 9 => (50, 1000)
  | 10 => (40000, 170000)
  | 11 => (100, 1000)
  | 12 => (200, 2000)
  | 13 => (20, 500)
  | 14 => (1, 15)
  | 15 => (10, 16)
  | 16 | 17 | 18 | 19 | 20 => (0, 65535)
  | 21 => (20, 200)
  | 22 => (10, 300)
  | _ => (1, 15)

/-- The number names a constant (R177, R179). -/
def isConst (n : Nat) : Bool := 1 ≤ n && n ≤ 25

/-- Writing `v` to constant `n` would break a consistent pair (R179). -/
def breaksPair (c : Consts) (n : Nat) (v : Int) : Bool :=
  match n with
  | 4 => (c.gminStd : Int) ≤ v
  | 3 => v ≤ (c.gminNarrow : Int)
  | 1 => (c.ph : Int) ≤ v
  | 10 => v ≤ (c.gmax : Int)
  | _ => false

/-- The value is in the constant's range and keeps both pairs (R179, step 4). -/
def constValueOk (c : Consts) (n : Nat) (v : Int) : Bool :=
  (constRange n).1 ≤ v && v ≤ (constRange n).2 && !breaksPair c n v

/-- Every stored constant lies in its range, and both pairs are consistent (R177). -/
def Consts.wf (c : Consts) : Bool :=
  ((List.range' 1 25).all fun n =>
    match c.get n with
    | some v => (constRange n).1 ≤ v && v ≤ (constRange n).2
    | none => false)
  && c.gminNarrow < c.gminStd && c.gmax < c.ph

end Sys2Proof.Machine
end

