-- ==== Sys2Proof/Machine/Layouts.lean ====
section
/-! DEFINITION. The codes and layouts of section 12.6 for notices and replies, and the frames the part sends (R183, R186). -/
namespace Sys2Proof.Machine

/-- One byte holding a number. -/
def byteOf (n : Nat) : Byte := BitVec.ofNat 8 n

/-- Yes, set, present and active are 1; no, clear, absent and inactive are 0 (section 12.6). -/
def flagByte (b : Bool) : Byte := if b then 1 else 0

/-- An absent one-byte value (section 12.6). -/
def absentByte : Byte := 0xFF#8

/-- Job states by their position in R23. -/
def JobState.code (x : JobState) : Nat :=
  match x with
  | .queued => 0 | .planning => 1 | .planned => 2 | .called => 3 | .running => 4 | .done => 5 | .cancelled => 6
  | .refused => 7

/-- JOB reasons (section 12.6). -/
def JobReason.code (x : JobReason) : Nat :=
  match x with
  | .accepted => 0 | .displaced => 1 | .none => 2 | .withdrawn => 3 | .oversize => 4 | .noFit => 5 | .sliver => 6
  | .tooNarrow => 7 | .asideDepth => 8 | .tooLong => 9

/-- Step kinds in STEP notices (section 12.6). -/
def StepKind.code (x : StepKind) : Nat :=
  match x with
  | .cut => 0 | .turn => 1 | .recall => 2 | .take => 3 | .reference => 4

/-- Step results (section 12.6). -/
def StepResult.code (x : StepResult) : Nat :=
  match x with
  | .done => 0 | .aborted => 1

/-- The stations of a WAIT notice CLEARANCE (section 12.6). -/
def Station.code (x : Station) : Nat :=
  match x with
  | .runner => 0 | .infeed => 1 | .jogger => 2

/-- Notice class codes (R190). -/
def NoticeClass.code (x : NoticeClass) : Nat :=
  match x with
  | .job => 0 | .lift => 1 | .step => 2 | .fault => 3 | .wait => 4

/-- The notice class of a code (R190); none for an unknown code. -/
def classOfCode (n : Nat) : Option NoticeClass :=
  match n with
  | 0 => some .job | 1 => some .lift | 2 => some .step | 3 => some .fault | 4 => some .wait | _ => none

/-- The notice mode of a code (R190); none for an unknown code. -/
def modeOfCode (n : Nat) : Option NoticeMode :=
  match n with
  | 0 => some .off | 1 => some .once | 2 => some .every | _ => none

/-- Reply status codes (R186). -/
def Status.code (x : Status) : Nat :=
  match x with
  | .ok => 0 | .busy => 1 | .protected_ => 2 | .range => 3 | .unknown => 4 | .tableFull => 5 | .noJob => 6
  | .duplicate => 7 | .queueFull => 8

/-- The fault set as 2 bytes, one bit for each kind in the order of R170 (section 12.6); bits 11 to 15 are 0 (log 49). -/
def FaultSet.bits (f : FaultSet) : Nat :=
  f.eStop.toNat + 2 * f.hydPressure.toNat + 4 * f.gaugePosition.toNat + 8 * f.encoderStall.toNat
    + 16 * f.referenceFail.toNat + 32 * f.noStack.toNat + 64 * f.plateRemoved.toNat + 128 * f.jogFailed.toNat
    + 256 * f.transferTimeout.toNat + 512 * f.pileBad.toNat + 1024 * f.motionTimeout.toNat

/-- The five tally counts, 2 bytes each (section 12.6). -/
def Tally.bytes (t : Tally) : List Byte :=
  leBytes 2 t.strokes ++ leBytes 2 t.recuts ++ leBytes 2 t.outputs ++ leBytes 2 t.waste ++ leBytes 2 t.limited

/-- The content of a WAIT notice (section 12.6). -/
def WaitFor.bytes (w : WaitFor) : List Byte :=
  match w with
  | .pile number => byteOf 0 :: leBytes 2 number
  | .plate => [byteOf 1]
  | .stepOk kind => [byteOf 2, byteOf kind.code]
  | .mismatch expected measured => byteOf 3 :: leBytes 4 expected ++ leBytes 4 measured
  | .inspect => [byteOf 4]
  | .clearance station => [byteOf 5, byteOf station.code]
  | .jogOk => [byteOf 6]

/-- The class of a notice (R190). -/
def Notice.cls (n : Notice) : NoticeClass :=
  match n with
  | .job _ _ _ => .job
  | .lift _ _ _ => .lift
  | .step _ _ _ _ _ _ => .step
  | .fault _ => .fault
  | .wait _ => .wait

/-- The content of a notice (section 12.6). -/
def Notice.content (n : Notice) : List Byte :=
  match n with
  | .job number state reason => leBytes 2 number ++ [byteOf state.code, byteOf reason.code]
  | .lift number ordinal tally => leBytes 2 number ++ [byteOf ordinal] ++ tally.bytes
  | .step number ordinal index kind result move =>
    leBytes 2 number ++ [byteOf ordinal, byteOf index, byteOf kind.code, byteOf result.code, flagByte move.limited]
      ++ leInt move.target ++ leInt move.actual
  | .fault set => leBytes 2 set.bits
  | .wait what => what.bytes

/-- The body of a notice frame: the notice header, then the content (section 12.6). -/
def QueuedNotice.body (q : QueuedNotice) : List Byte :=
  byteOf q.notice.cls.code :: leBytes 2 q.number.toNat ++ q.notice.content

/-- The body of a reply: the request's KIND, the status code, the field number, then the data (R186). -/
def Reply.body (r : Reply) : List Byte := r.kind :: byteOf r.status.code :: byteOf r.field :: r.data

/-- The frame of a reply: KIND 80h and the request's TAG (R183, R186). -/
def Reply.frame (r : Reply) : List Byte := frameBytes 0x80#8 r.tag r.body

/-- The frame of a notice: KIND 90h and TAG 00h (R183). -/
def QueuedNotice.frame (q : QueuedNotice) : List Byte := frameBytes 0x90#8 0 q.body

/-- The time a frame takes on the line: 10 bit times a byte at 57,600 bit/s (R183), rounded up to whole milliseconds
(DESIGN CHOICE, log 24). -/
def frameMs (bytes : Nat) : Nat := (bytes * 10000 + 57599) / 57600

end Sys2Proof.Machine
end

