-- ==== Sys2Proof/Machine/LinkOps.lean ====
section
/-! DEFINITION. The Cell Link's shared operations: notices offered and queued (R190, R191), replies (R186), service of the
request at the head of the queue (R186), and the transmitter's choice (R192). -/
namespace Sys2Proof.Machine

/-! ### Notices -/

/-- The mode and armed mark of a class (R190). -/
def NoticeModes.get (m : NoticeModes) (c : NoticeClass) : ClassMode :=
  match c with
  | .job => m.job
  | .lift => m.lift
  | .step => m.step
  | .fault => m.fault
  | .wait => m.wait

/-- The modes with one class's mode and armed mark replaced. -/
def NoticeModes.put (m : NoticeModes) (c : NoticeClass) (x : ClassMode) : NoticeModes :=
  match c with
  | .job => { m with job := x }
  | .lift => { m with lift := x }
  | .step => { m with step := x }
  | .fault => { m with fault := x }
  | .wait => { m with wait := x }

/-- A notice put to the queue (R191): it joins with the next number, or the overflow indicator is set. -/
def Link.enqueue (l : Link) (n : Notice) : Link :=
  if l.notices.length < maxNotices then { l with notices := l.notices ++ [⟨l.number, n⟩], number := l.number + 1 }
  else { l with overflow := true }

/-- A class disarmed (R190). -/
def Link.disarm (l : Link) (c : NoticeClass) : Link :=
  { l with modes := l.modes.put c { l.modes.get c with armed := false } }

/-- A notice offered to the Cell Link under its class's mode (R190). -/
def Link.offer (l : Link) (n : Notice) : Link :=
  match (l.modes.get n.cls).mode with
  | .off => l
  | .every => l.enqueue n
  | .once =>
    if (l.modes.get n.cls).armed then
      if l.notices.length < maxNotices then (l.enqueue n).disarm n.cls else l.enqueue n
    else l

/-- A block queues a notice. -/
def State.notify (s : State) (n : Notice) : State := s.setLink (s.link.offer n)

/-- A block queues a WAIT notice. -/
def State.await (s : State) (w : WaitFor) : State := s.notify (.wait w)

/-! ### Replies and service -/

/-- A reply joins the reply list (R186). -/
def State.reply (s : State) (r : Reply) : State := s.setLink { s.link with replies := s.link.replies ++ [r] }

/-- The reply to a request: a status, the field number a RANGE refusal names, and the data of an OK reply (R186). -/
def State.answer (s : State) (f : Frame) (status : Status) (field : Nat) (data : List Byte) : State :=
  s.reply ⟨f.kind, f.tag, status, field, data⟩

/-- The three conditions of R186 under which the head of the request queue is served. -/
def Link.serving (l : Link) : Bool := !l.requests.isEmpty && l.replies.length < serveReplies && l.restart.isNone

/-- The frame at the head of the request queue, if it may be served now and its KIND is `code` (R186, R187). -/
def State.request (s : State) (code : Byte) : Option Frame :=
  match s.link.requests with
  | f :: _ => if s.link.serving && f.kind = code then some f else none
  | [] => none

/-- The request queue without its head (R186). -/
def State.dequeue (s : State) : State := s.setLink { s.link with requests := s.link.requests.tail }

/-- Service of a request (R186): with no servable frame of this KIND nothing happens (log 3); a LEN other than `len` is refused
RANGE field 0; otherwise the request is carried out. -/
def State.serve (s : State) (code : Byte) (len : Nat) (carryOut : Frame → State → State) : State :=
  match s.request code with
  | none => s
  | some f => if f.body.length = len then carryOut f s.dequeue else s.dequeue.answer f .range 0 []

/-! ### The transmitter -/

/-- The transmitter's choice when it is idle (R192): the head reply, else the head notice, else it stays idle. A notice
leaves the queue as its sending begins (log 8). -/
def Link.pick (l : Link) : Link :=
  match l.tx with
  | .reply => l
  | .notice _ => l
  | .idle =>
    match l.replies, l.notices with
    | r :: _, _ => { l with tx := .reply, txTimer := Timer.start (frameMs r.frame.length) }
    | [], q :: rest => { l with tx := .notice q, txTimer := Timer.start (frameMs q.frame.length), notices := rest }
    | [], [] => l

/-- The transmitter's choice, made at the end of every command (log 8). -/
def State.transmit (s : State) : State := s.setLink s.link.pick

end Sys2Proof.Machine
end

