-- ==== Sys2Proof/Machine/ArbiterOps.lean ====
section
/-! DEFINITION. The Hydraulic Arbiter: requests, the choice of a grant, release and revocation (R157 to R162). What a granted
requester then does is in Machine/Ops.lean. -/
namespace Sys2Proof.Machine

/-- The waiting time of a requester's pending request (R157). -/
def Arbiter.waiting (a : Arbiter) (q : Requester) : Option Nat :=
  match q with
  | .cut => a.cut
  | .lift => a.lift
  | .turn => a.turn

/-- A requester's pending request replaced. -/
def Arbiter.put (a : Arbiter) (q : Requester) (w : Option Nat) : Arbiter :=
  match q with
  | .cut => { a with cut := w }
  | .lift => { a with lift := w }
  | .turn => { a with turn := w }

/-- The three requesters in the fixed order of R160. -/
def allRequesters : List Requester := [.cut, .lift, .turn]

/-- The requesters with a request pending, in the fixed order, with their waiting times. -/
def Arbiter.standing (a : Arbiter) : List (Requester × Nat) :=
  allRequesters.filterMap fun q => (a.waiting q).map fun w => (q, w)

/-- The longer wait of two, the earlier in the fixed order on a tie (R160). -/
def preferLong (best : Option (Requester × Nat)) (x : Requester × Nat) : Option (Requester × Nat) :=
  match best with
  | none => some x
  | some b => if b.2 < x.2 then some x else some b

/-- The request the Arbiter chooses (R160): the aged request with the longest waiting time if any is aged, else the first in
the fixed order. `limit` is the aging limit in milliseconds. -/
def Arbiter.choose (a : Arbiter) (limit : Nat) : Option Requester :=
  match (a.standing.filter fun x => limit ≤ x.2).foldl preferLong none with
  | some x => some x.1
  | none => a.standing.head?.map Prod.fst

/-- The grant made to a requester (R160): it leaves the pending set and the unit goes to HELD. -/
def Arbiter.grant (a : Arbiter) (q : Requester) : Arbiter := { a.put q none with unit := .held, holder := some q }

/-- The unit state with no holder, as HYD_READY stands (R158). -/
def freeUnit (hydReady : Bool) : UnitState := if hydReady then .free else .unavailable

/-- A requester raises its request: pending with waiting time 0, or dropped as it is raised while a stop is in force (R159). -/
def State.raise (s : State) (q : Requester) : State :=
  if s.stop then s else s.setArbiter (s.arbiter.put q (some 0))

/-- A requester's pending request is withdrawn (R159). -/
def State.withdrawRequest (s : State) (q : Requester) : State := s.setArbiter (s.arbiter.put q none)

/-- The grant ends: FREE or UNAVAILABLE as HYD_READY stands (R161). -/
def State.release (s : State) : State :=
  s.setArbiter { s.arbiter with unit := freeUnit (s.on .hydReady), holder := none }

/-- A holder gives back the unit, or withdraws its request: a requester ends without the unit and without a request. -/
def State.leaveUnit (s : State) (q : Requester) : State :=
  let s := s.withdrawRequest q
  if s.arbiter.holder = some q then s.release else s

/-- A stop revokes the grant and drops every pending request (R162). -/
def State.revoke (s : State) : State := s.setArbiter ⟨freeUnit (s.on .hydReady), none, none, none, none⟩

end Sys2Proof.Machine
end

