-- ==== Sys2Proof/Machine/GaugeOps.lean ====
section
/-! DEFINITION. The Gauge Axis: the target arithmetic, the travel of a move, the reference run, and what pauses, resumes or
interrupts them (chapter 5). -/
namespace Sys2Proof.Machine

/-! ### The target arithmetic (R87 to R90) -/

/-- Gmin_eff (R88): Gmin_narrow if PLATE_FITTED is active, Gmin_std if it is inactive. -/
def gminEff (c : Consts) (plate : Bool) : Nat := if plate then c.gminNarrow else c.gminStd

/-- The draw offset D in hundredths (R87). -/
def drawOffset (c : Consts) (k h : Nat) : Nat := (k * min h c.hmax + 500) / 1000

/-- The target of a CUT move and its LIMITED mark (R88). -/
def cutTarget (c : Consts) (plate : Bool) (n h k : Nat) : Int × Bool :=
  let t : Int := (n : Int) + drawOffset c k h + c.kc
  if (c.gmax : Int) < t then (c.gmax, true)
  else if t < (gminEff c plate : Int) then (gminEff c plate, true)
  else (t, false)

/-- The target of a PARK move (R89). -/
def parkTarget (c : Consts) (plate : Bool) (pos : Nat) : Int :=
  if c.gmax < pos then c.gmax else if pos < gminEff c plate then gminEff c plate else pos

/-- Target and LIMITED mark of a move (R88, R89). -/
def targetOf (c : Consts) (plate : Bool) (req : MoveReq) : Int × Bool :=
  match req with
  | .cut n h k => cutTarget c plate n h k
  | .park pos => (parkTarget c plate pos, false)

/-- The overshoot point of a move from position `p` (R90): the smaller of T + B and Gmax if T > p, absent otherwise. -/
def overshootPoint (p t : Int) (b gmax : Nat) : Option Int := if p < t then some (min (t + b) gmax) else none

/-- A move record at its start from position `p`, with the constants of that moment (R86, R100). -/
def moveOf (c : Consts) (plate : Bool) (p : Int) (req : MoveReq) : Move where
  req := some req
  target := (targetOf c plate req).1
  overshoot := overshootPoint p (targetOf c plate req).1 c.backlash c.gmax
  limited := (targetOf c plate req).2
  backlash := c.backlash
  gmax := c.gmax
  wPos := c.wPos
  settle := c.settle

/-- The reference park (R84): target Gmax, no LIMITED mark. -/
def refParkOf (r : RefRun) : Move where
  req := none
  target := r.gmax
  overshoot := none
  limited := false
  backlash := r.backlash
  gmax := r.gmax
  wPos := r.wPos
  settle := r.settle

/-! ### Travel (R90, R91, R94) -/

/-- Travel in a phase begins: MOVING with a fresh stall watch (R97), the drive commanded (R102), or PAUSED (R94). -/
def Gauge.go (g : Gauge) (paused : Bool) (ph : MovePhase) : Gauge :=
  { g with
    state := if paused then .paused else .moving
    phase := some ph
    stallTimer := if paused then Timer.stopped else Timer.start stallMs
    clearTimer := if paused then g.clearTimer else Timer.stopped
    driven := g.driven || !paused }

/-- The commanded travel has ended: SETTLING, with the settle time as taken at the move's start (R91). -/
def Gauge.settleOn (g : Gauge) (m : Move) : Gauge :=
  { g with
    state := .settling
    phase := none
    settleTimer := Timer.start m.settle
    stallTimer := Timer.stopped
    clearTimer := Timer.stopped }

/-- A move, or a corrective move, starts from the present position (R90, R93): with no distance to travel it goes directly to
SETTLING, paused or not (log 17). -/
def Gauge.travel (g : Gauge) (m : Move) (paused : Bool) : Gauge :=
  let m := { m with overshoot := overshootPoint g.position m.target m.backlash m.gmax }
  let g := { g with move := some m }
  if g.position < m.target then g.go paused .overshoot
  else if m.target < g.position then g.go paused .approach
  else g.settleOn m

/-- The forward travel to T begins, or has no distance to go (R90, R91). -/
def Gauge.approach (g : Gauge) (m : Move) : Gauge :=
  if m.target < g.position then g.go false .approach else g.settleOn m

/-- The position has changed: the end of a commanded travel in MOVING (R91). -/
def Gauge.arrive (g : Gauge) : Gauge :=
  match g.state, g.phase, g.move with
  | .moving, some .overshoot, some m => if m.overshoot.getD m.target ≤ g.position then g.approach m else g
  | .moving, some .approach, some m => if g.position ≤ m.target then g.settleOn m else g
  | _, _, _ => g

/-- The position after one encoder step (R81), kept in -500,000..+500,000. -/
def stepPosition (p : Int) (dir : EncoderDir) : Int :=
  match dir with
  | .rearward => min (p + 1) 500000
  | .forward => max (p - 1) (-500000)

/-- CURTAIN breaks: REFERENCING and MOVING go to PAUSED with stall watch and search limit suspended, and the clear interval of
PAUSED is void (R94). -/
def Gauge.pause (g : Gauge) : Gauge :=
  match g.state with
  | .referencing | .moving =>
    { g with
      state := .paused
      stallTimer := Timer.stopped
      searchTimer := g.searchTimer.halt
      clearTimer := Timer.stopped }
  | .paused => { g with clearTimer := Timer.stopped }
  | .unreferenced | .idle | .settling | .faulted => g

/-- CURTAIN clears: the 500 ms of PAUSED start (R94). -/
def Gauge.curtainClear (g : Gauge) : Gauge :=
  if g.state = .paused then { g with clearTimer := Timer.start clearMs } else g

/-- The overshoot travel of a resumed APPROACH that was carried to or forward of T (R94). -/
def Gauge.reapproach (g : Gauge) (m : Move) : Gauge :=
  let m := { m with overshoot := some (min (m.target + m.backlash) m.gmax) }
  let g := { g with move := some m }
  if g.position < m.overshoot.getD m.target then g.go false .overshoot else g.approach m

/-- The 500 ms have passed: the motion resumes in the phase it kept (R94). -/
def Gauge.resume (g : Gauge) : Gauge :=
  match g.phase, g.move with
  | some .search, _ =>
    { g with
      state := .referencing
      stallTimer := Timer.start stallMs
      searchTimer := g.searchTimer.carryOn
      clearTimer := Timer.stopped
      driven := true }
  | some .overshoot, some m =>
    if g.position < m.overshoot.getD m.target then g.go false .overshoot else g.approach m
  | some .approach, some m => if m.target < g.position then g.go false .approach else g.reapproach m
  | _, _ => g

/-- The gauge stands still: no motion, no pending move, the corrective count 0 (R95), every timer stopped. -/
def Gauge.still (g : Gauge) (st : AxisState) : Gauge :=
  { g with
    state := st
    phase := none
    move := none
    pendingMove := none
    corrective := 0
    refRun := none
    settleTimer := Timer.stopped
    searchTimer := Timer.stopped
    stallTimer := Timer.stopped
    clearTimer := Timer.stopped }

/-- IDLE if the reference is VALID, UNREFERENCED if it is INVALID (R95, R98). -/
def Gauge.restState (g : Gauge) : AxisState := if g.valid then .idle else .unreferenced

/-- The axis is in a motion that a fault interrupts (R95). -/
def Gauge.inMotion (g : Gauge) : Bool :=
  match g.state with
  | .referencing | .moving | .settling | .paused => true
  | .unreferenced | .idle | .faulted => false

/-! ### The reference run (R84, R85) -/

/-- The STEP notice of a reference run (R86): actual position 0 if the reference is INVALID at its end. -/
def State.refNotice (s : State) (r : RefRun) (result : StepResult) : State :=
  s.notify (.step 0 0 0 .reference result ⟨false, r.gmax, if s.gauge.valid then s.gauge.position else 0⟩)

/-- HOME_SWITCH is reached in SEARCH: step 2 of R84, and step 3 begins, in PAUSED if the search was paused. -/
def Gauge.home (g : Gauge) (r : RefRun) : Gauge :=
  let g :=
    { g with
      position := r.ph
      valid := true
      searchTimer := g.searchTimer.halt
      corrective := 0
      move := some (refParkOf r) }
  g.go (g.state = .paused) .approach

/-- A reference run starts (R84): in PAUSED if CURTAIN is broken (R94), with step 2 at once if HOME_SWITCH is active. That the
corrective count left by the last move is 0 from the run's start on is the model's choice (DESIGN CHOICE, log 50): R86 clears it at
a move's start and does not speak of a run's. -/
def State.startReference (s : State) : State :=
  let c := s.store.consts
  let r : RefRun := ⟨c.ph, c.gmax, c.backlash, c.wPos, c.settle⟩
  let paused := s.on .curtain
  let g :=
    { s.gauge with
      state := if paused then .paused else .referencing
      phase := some .search
      valid := false
      move := none
      corrective := 0
      refRun := some r
      settleTimer := Timer.stopped
      searchTimer := if paused then (Timer.start searchMs).halt else Timer.start searchMs
      stallTimer := if paused then Timer.stopped else Timer.start stallMs
      clearTimer := Timer.stopped
      gminStd := c.gminStd
      driven := s.gauge.driven || !paused }
  s.setGauge (if s.on .homeSwitch then g.home r else g)

/-! ### Moves (R86) -/

/-- A move starts from the present position with the values of this moment (R86, R90, R100); in PAUSED if CURTAIN is broken
(R94) or the axis was PAUSED (R86). -/
def State.startMove (s : State) (req : MoveReq) : State :=
  let g := { s.gauge with corrective := 0, pendingMove := none, gminStd := s.store.consts.gminStd }
  s.setGauge
    (g.travel (moveOf s.store.consts (s.on .plateFitted) g.position req) (s.on .curtain || g.state = .paused))

/-- A move asked of the Gauge Axis (R86). -/
def State.askMove (s : State) (req : MoveReq) : State :=
  match s.gauge.state with
  | .idle => s.startMove req
  | .unreferenced => (s.setGauge { s.gauge with pendingMove := some req }).startReference
  | .referencing | .moving | .settling | .paused =>
    if s.gauge.refRun.isSome then s.setGauge { s.gauge with pendingMove := some req } else s.startMove req
  | .faulted => s

/-- A STOP-class or guillotine station fault interrupts the motion in progress (R95): a reference run ends ABORTED. The
Runner's ask is void: it asks again as R64 gives. -/
def State.interruptGauge (s : State) : State :=
  if s.gauge.inMotion then
    let run := s.gauge.refRun
    let s := s.setGauge (s.gauge.still s.gauge.restState)
    let s := s.setRunner { s.runner with asked := none }
    match run with
    | some r => s.refNotice r .aborted
    | none => s
  else s

/-- The axis goes to FAULTED for one of its own three faults (R85, R93, R97): as R95 gives but for the end state, motion and
pending move are dropped and the corrective count is 0. -/
def State.faultAxis (s : State) (valid : Bool) : State :=
  (s.setGauge { s.gauge.still .faulted with valid := valid }).setRunner { s.runner with asked := none }

/-- The axis leaves FAULTED when the last of its three faults has left the set (R98). -/
def axisUnfault (s : State) : Option State :=
  if s.gauge.state = .faulted && !s.faults.axis then
    some (s.setGauge { s.gauge with state := s.gauge.restState })
  else none

end Sys2Proof.Machine
end

