-- ==== Sys2Proof/Machine/Stacks.lean ====
section
/-! DEFINITION. Orientation records and their transforms (R1 to R5), and the records formed at a load, a cut, a turn and
a recall (R8 to R14): pure functions of records, applied to the Runner and the Infeed elsewhere. -/
namespace Sys2Proof.Machine

/-- The edge that follows clockwise, seen from above (R1): GRIP, OFF, TAIL, LAY with face UP and GRIP, LAY, TAIL, OFF
with face DOWN. -/
def clockwiseNext (f : Face) (e : Edge) : Edge :=
  match f, e with
  | .up, .grip => .off
  | .up, .off => .tail
  | .up, .tail => .lay
  | .up, .lay => .grip
  | .down, .grip => .lay
  | .down, .lay => .tail
  | .down, .tail => .off
  | .down, .off => .grip

/-- The edge at right: the one after the rear edge (R1). -/
def Orientation.right (o : Orientation) : Edge := clockwiseNext o.face o.rear

/-- The edge at front: the one after that (R1). -/
def Orientation.front (o : Orientation) : Edge := clockwiseNext o.face o.right

/-- The edge at left: the one after that (R1). -/
def Orientation.left (o : Orientation) : Edge := clockwiseNext o.face o.front

/-- The load orientation (R1). -/
def loadOrientation : Orientation := ⟨.grip, .up⟩

/-- TURN_CW, TURN_CCW, TURN_180 on an orientation (R2, R3). -/
def Orientation.turn (o : Orientation) (k : TurnKind) : Orientation :=
  match k with
  | .cw => { o with rear := o.left }
  | .ccw => { o with rear := o.right }
  | .half => { o with rear := o.front }

/-- INVERT toggles the face and keeps the rear edge (R4). -/
def Orientation.invert (o : Orientation) : Orientation :=
  { o with face := match o.face with | .up => .down | .down => .up }

/-- Whether a turn exchanges along and across (R5). -/
def TurnKind.quarter (k : TurnKind) : Bool :=
  match k with
  | .cw | .ccw => true
  | .half => false

/-- The Working Stack formed at a load (R8). The lift record's measured height is taken as it is, also above the 16,000 tenths of
R6 (log 45). -/
def stackAtLoad (r : JobRecord) (l : LiftRec) : StackRec where
  job := l.job
  lift := l.lift
  strip := 0
  along := r.sheetL
  across := r.sheetW
  height := l.height
  orient := loadOrientation
  partialCut := false

/-- The pending cut-off formed at a completed cut at `n` with clamped height `h` (R9). -/
def cutOffOf (w : StackRec) (n h strip : Nat) (d : Disposition) : CutOff where
  stack :=
    { w with
      strip := if d = .aside then strip else w.strip
      along := w.along - n
      height := h
      partialCut := false }
  disp := d

/-- The Working Stack after a completed cut at `n` with clamped height `h` (R9). -/
def stackAfterCut (w : StackRec) (n h strip : Nat) (d : Disposition) : StackRec :=
  { w with
    strip := if d = .aside then w.strip else strip
    along := n
    height := h
    partialCut := false }

/-- The Working Stack after a completed turn (R11). -/
def stackAfterTurn (w : StackRec) (k : TurnKind) (strip : Nat) : StackRec :=
  { w with
    strip := strip
    along := if k.quarter then w.across else w.along
    across := if k.quarter then w.along else w.across
    orient := w.orient.turn k }

/-- A cut-off as an Aside List entry: without its partial-cut marker (R12). -/
def asideOf (w : StackRec) : AsideRec := ⟨w.job, w.lift, w.strip, w.along, w.across, w.height, w.orient⟩

/-- A recalled strip as the Working Stack: every field as the entry held it, partial-cut marker no (R14). -/
def stackOfAside (a : AsideRec) : StackRec := ⟨a.job, a.lift, a.strip, a.along, a.across, a.height, a.orient, false⟩

end Sys2Proof.Machine
end

