-- ==== Sys2Proof/Machine/Plan.lean ====
section
/-! DEFINITION. Cut planning: the remainders and checks of section 3.3, the expansion of section 3.4 and the totals of
section 3.6, as functions of the job record and the five copied constants alone (R41). -/
namespace Sys2Proof.Machine

/-- trim_tail (R43). -/
def trimTail (r : JobRecord) : Int :=
  (r.sheetL : Int) - r.trimGrip - (r.nr : Int) * r.pl - ((r.nr : Int) - 1) * r.gl

/-- trim_off (R43). -/
def trimOff (r : JobRecord) : Int :=
  (r.sheetW : Int) - r.trimLay - (r.nc : Int) * r.pw - ((r.nc : Int) - 1) * r.gw

/-- The job has a phase B with cuts (R43). -/
def phaseBCuts (r : JobRecord) : Bool := !(trimOff r = 0 && r.nc = 1 && r.trimLay = 0)

/-- Check 1 of R44. -/
def oversize (r : JobRecord) (k : PlanConsts) : Bool :=
  k.gmax < r.sheetL || k.knife < r.sheetW || (phaseBCuts r && (k.gmax < r.sheetW || k.knife < r.pl))

/-- Check 2 of R44. -/
def noFit (r : JobRecord) : Bool := trimTail r < 0 || trimOff r < 0

/-- A margin or gutter greater than 0 and less than Smin. -/
def isSliver (k : PlanConsts) (x : Int) : Bool := 0 < x && x < (k.smin : Int)

/-- Check 3 of R44. -/
def sliver (r : JobRecord) (k : PlanConsts) : Bool :=
  isSliver k (trimTail r) || isSliver k (trimOff r) || isSliver k r.gl || isSliver k r.gw

/-- A stack of the planner's model (R45). -/
structure ModelStack where
  along : Nat
  across : Nat
  orient : Orientation
  strip : Nat
deriving DecidableEq, Repr

/-- The planner's model (R45) with the steps written so far, newest first, and the peak Aside depth (R56). The model Aside
List has its top first. -/
structure PlanModel where
  work : Option ModelStack
  aside : List ModelStack
  steps : List CutStep
  peak : Nat
deriving DecidableEq, Repr

/-- The model at the start of the expansion: the lift as R8 forms it (R45). -/
def planStartModel (r : JobRecord) : PlanModel := ⟨some ⟨r.sheetL, r.sheetW, loadOrientation, 0⟩, [], [], 0⟩

/-- The along of the model Working Stack: the running length `pos` (R45). -/
def PlanModel.pos (m : PlanModel) : Nat := (m.work.map ModelStack.along).getD 0

/-- The model with one more step written, at the next index (R45, R54, R55). -/
def PlanModel.emit (m : PlanModel) (strip : Nat) (a : StepAction) (work : Option ModelStack) (aside : List ModelStack) :
    PlanModel where
  work := work
  aside := aside
  steps :=
    { index := m.steps.length
      strip := strip
      expAlong := (work.map ModelStack.along).getD 0
      expAcross := (work.map ModelStack.across).getD 0
      action := a } :: m.steps
  peak := max m.peak aside.length

/-- CUT at `n` (R45), with the plate-required mark of R53. -/
def PlanModel.cut (k : PlanConsts) (m : PlanModel) (n : Nat) (d : Disposition) (strip : Nat) : PlanModel :=
  match m.work with
  | none => m
  | some w =>
    let plate := k.gminNarrow ≤ n && n < k.gminStd
    let front : ModelStack := ⟨w.along - n, w.across, w.orient, strip⟩
    let rest : ModelStack := { w with along := n, strip := if d = .aside then w.strip else strip }
    m.emit strip (.cut n d plate) (some rest) (if d = .aside then front :: m.aside else m.aside)

/-- TURN (R45, R5). -/
def PlanModel.turn (m : PlanModel) (t : TurnKind) (strip : Nat) : PlanModel :=
  match m.work with
  | none => m
  | some w =>
    let w' : ModelStack :=
      ⟨if t.quarter then w.across else w.along, if t.quarter then w.along else w.across, w.orient.turn t, strip⟩
    m.emit strip (.turn t) (some w') m.aside

/-- RECALL (R45): with the strip's number (R49, R52). -/
def PlanModel.recall (m : PlanModel) : PlanModel :=
  match m.aside with
  | [] => m
  | top :: rest => m.emit top.strip .recall (some top) rest

/-- TAKE (R45): it carries the model Working Stack's strip number before the step (R52). -/
def PlanModel.take (m : PlanModel) (d : TakeDisposition) : PlanModel :=
  match m.work with
  | none => m
  | some w => m.emit w.strip (.take d) none m.aside

/-- The strip number of a WASTE cut or a TURN of phase A: nr once the along after it is not greater than pl + trim_grip
(R52). -/
def phaseAStrip (r : JobRecord) (alongAfter : Nat) : Nat :=
  if alongAfter ≤ r.pl + r.trimGrip then r.nr else 0

/-- A WASTE cut of phase A that takes `x` off the front. -/
def PlanModel.wasteA (r : JobRecord) (k : PlanConsts) (m : PlanModel) (x : Nat) : PlanModel :=
  m.cut k (m.pos - x) .waste (phaseAStrip r (m.pos - x))

/-- Rows 1 to `rows` separated: an ASIDE cut for each, then its gutter if there is one (R46, step 2). -/
def planRows (r : JobRecord) (k : PlanConsts) (m : PlanModel) (rows : Nat) : PlanModel :=
  match rows with
  | 0 => m
  | i + 1 =>
    let before := planRows r k m i
    let row := before.cut k (before.pos - r.pl) .aside (i + 1)
    if 0 < r.gl then row.wasteA r k r.gl else row

/-- The final edge of phase A (R47). -/
def planFinalA (r : JobRecord) (k : PlanConsts) (m : PlanModel) : PlanModel :=
  if r.trimGrip = 0 then m
  else if k.gminStd ≤ r.trimGrip then (m.cut k r.trimGrip .aside r.nr).take .waste
  else (m.turn .half (phaseAStrip r m.pos)).cut k r.pl .waste (phaseAStrip r r.pl)

/-- Phase A (R46, R47). -/
def planPhaseA (r : JobRecord) (k : PlanConsts) : PlanModel :=
  let m := planStartModel r
  let m := if 0 < trimTail r then m.wasteA r k (trimTail r).toNat else m
  planFinalA r k (planRows r k m (r.nr - 1))

/-- Columns 1 to `cols` separated: an OUTPUT cut for each, then its gutter if there is one (R50, step 2). -/
def planColumns (r : JobRecord) (k : PlanConsts) (strip : Nat) (m : PlanModel) (cols : Nat) : PlanModel :=
  match cols with
  | 0 => m
  | j + 1 =>
    let before := planColumns r k strip m j
    let col := before.cut k (before.pos - r.pw) .output strip
    if 0 < r.gw then col.cut k (col.pos - r.gw) .waste strip else col

/-- The final edge of a strip (R51). -/
def planFinalB (r : JobRecord) (k : PlanConsts) (strip : Nat) (m : PlanModel) : PlanModel :=
  if r.trimLay = 0 then m.take .output
  else if k.gminStd ≤ r.trimLay then (m.cut k r.trimLay .output strip).take .waste
  else ((m.turn .half strip).cut k r.pw .waste strip).take .output

/-- The turn that brings LAY to the rear: TURN_CW if the left edge is LAY, TURN_CCW if it is OFF (R49). -/
def layTurn (o : Orientation) : TurnKind := if o.left = .lay then .cw else .ccw

/-- Phase B of strip number `strip`, which stands as the model Working Stack (R49 from step 2, R50, R51). Its TURN and CUT
steps carry that number; its TAKE carries the model's (R52), which differs only when the strip was left at the gauge with
number 0 and is neither turned nor cut. -/
def planStrip (r : JobRecord) (k : PlanConsts) (strip : Nat) (m : PlanModel) : PlanModel :=
  match m.work with
  | none => m
  | some w =>
    if phaseBCuts r then
      let m := m.turn (layTurn w.orient) strip
      let m := if 0 < trimOff r then m.cut k (m.pos - (trimOff r).toNat) .waste strip else m
      planFinalB r k strip (planColumns r k strip m (r.nc - 1))
    else m.take .output

/-- The strip number of the model Working Stack. -/
def PlanModel.strip (m : PlanModel) : Nat := (m.work.map ModelStack.strip).getD 0

/-- The strips on the model Aside List, popped one at a time (R48). -/
def planRecalls (r : JobRecord) (k : PlanConsts) (m : PlanModel) (strips : Nat) : PlanModel :=
  match strips with
  | 0 => m
  | i + 1 =>
    let m := m.recall
    planRecalls r k (planStrip r k m.strip m) i

/-- Phase B (R48). The strip that phase A leaves at the gauge, if it leaves one, is strip nr (R47). -/
def planPhaseB (r : JobRecord) (k : PlanConsts) (m : PlanModel) : PlanModel :=
  planRecalls r k (planStrip r k r.nr m) m.aside.length

/-- The whole expansion of section 3.4. -/
def expand (r : JobRecord) (k : PlanConsts) : PlanModel := planPhaseB r k (planPhaseA r k)

/-- The step list of the expansion, in index order. -/
def planSteps (r : JobRecord) (k : PlanConsts) : List CutStep := (expand r k).steps.reverse

/-- Some CUT step has N below Gmin_narrow: check 4 of R44 (R53). -/
def tooNarrow (k : PlanConsts) (steps : List CutStep) : Bool :=
  steps.any fun t =>
    match t.action with
    | .cut n _ _ => n < k.gminNarrow
    | .turn _ | .recall | .take _ => false

/-- The result of a planning operation (R41, R44). -/
inductive PlanResult where
  | done (steps : List CutStep)
  | refused (why : JobReason)
deriving DecidableEq, Repr

/-- The checks of R44 in their order. -/
def planResult (r : JobRecord) (k : PlanConsts) : PlanResult :=
  if oversize r k then .refused .oversize
  else if noFit r then .refused .noFit
  else if sliver r k then .refused .sliver
  else
    let steps := planSteps r k
    if tooNarrow k steps then .refused .tooNarrow
    else if maxAside < (expand r k).peak then .refused .asideDepth
    else if maxSteps < steps.length then .refused .tooLong
    else .done steps

/-! ### Totals (R56) -/

/-- Strokes per lift: the CUT steps. -/
def countCuts (steps : List CutStep) : Nat :=
  steps.countP fun t => match t.action with | .cut _ _ _ => true | .turn _ | .recall | .take _ => false

/-- Outputs per lift: the CUT and TAKE steps with disposition OUTPUT. -/
def countOutputs (steps : List CutStep) : Nat :=
  steps.countP fun t =>
    match t.action with
    | .cut _ .output _ | .take .output => true
    | .cut _ .waste _ | .cut _ .aside _ | .take .waste | .turn _ | .recall => false

/-- Waste take-aways per lift: the CUT and TAKE steps with disposition WASTE. -/
def countWaste (steps : List CutStep) : Nat :=
  steps.countP fun t =>
    match t.action with
    | .cut _ .waste _ | .take .waste => true
    | .cut _ .output _ | .cut _ .aside _ | .take .output | .turn _ | .recall => false

end Sys2Proof.Machine
end

