-- ==== Sys2Proof/Machine/JobOps.lean ====
section
/-! DEFINITION. The Job Table, the cut banks and the Cut Planner: shared operations (chapters 2 and 3). -/
namespace Sys2Proof.Machine

/-! ### Banks (R35, R36) -/

/-- A cut bank. -/
def State.bank (s : State) (bk : BankId) : Bank :=
  match bk with
  | .a => s.bankA
  | .b => s.bankB

/-- One cut bank replaced. -/
def State.setBank (s : State) (bk : BankId) (x : Bank) : State :=
  match bk with
  | .a => s.setBankA x
  | .b => s.setBankB x

/-- A bank becomes EMPTY: its plan, snapshot and job number are discarded (R35, R36). -/
def State.emptyBank (s : State) (bk : Option BankId) : State :=
  match bk with
  | none => s
  | some bk => s.setBank bk Bank.cleared

/-- The bank a planning start takes: the EMPTY one, bank A if both are (R38). -/
def State.freeBank (s : State) : Option BankId :=
  if s.bankA.state = .empty then some .a else if s.bankB.state = .empty then some .b else none

/-! ### Entries (R22) -/

/-- The entry that holds a job number. -/
def State.entry (s : State) (n : Nat) : Option JobEntry := s.jobs.find? fun e => e.record.number = n

/-- Every entry of a job number changed by `f`. -/
def State.onEntry (s : State) (n : Nat) (f : JobEntry → JobEntry) : State :=
  s.setJobs (s.jobs.map fun e => if e.record.number = n then f e else e)

/-- An entry leaves the table; the others keep their order (R22). -/
def State.dropEntry (s : State) (n : Nat) : State := s.setJobs (s.jobs.filter fun e => e.record.number ≠ n)

/-- The bank of a job: the one its entry records (R22). -/
def State.jobBank (s : State) (n : Nat) : Option BankId := (s.entry n).bind JobEntry.bank

/-- The paper-class snapshot of a job's bank (R39). Without one (a state no run reaches) the default class (log 30). -/
def State.snapshot (s : State) (n : Nat) : PaperClass :=
  match s.jobBank n with
  | some bk => (s.bank bk).snapshot.getD PaperClass.default
  | none => PaperClass.default

/-- A change of a job's state with its JOB notice (R24). -/
def State.moveJob (s : State) (n : Nat) (st : JobState) (why : JobReason) : State :=
  (s.onEntry n fun e => { e with state := st }).notify (.job n st why)

/-- A job ends: its bank becomes EMPTY, it leaves the table, and its terminal JOB notice is queued (R23, R24). -/
def State.endJob (s : State) (e : JobEntry) (st : JobState) (why : JobReason) : State :=
  ((s.emptyBank e.bank).dropEntry e.record.number).notify (.job e.record.number st why)

/-- Some job in the table is RUNNING (R179). -/
def State.jobRunning (s : State) : Bool := s.jobs.any fun e => e.state = .running

/-! ### Choosing jobs (R25, R26, R28, R29) -/

/-- A QUEUED job whose priority is at least the admission level (R25). -/
def State.eligible (s : State) (e : JobEntry) : Bool := e.state = .queued && s.admission ≤ e.record.priority

/-- The better of two jobs: the higher priority, the earlier one on a tie (R26, R28). -/
def preferHigh (best : Option JobEntry) (e : JobEntry) : Option JobEntry :=
  match best with
  | none => some e
  | some b => if b.record.priority < e.record.priority then some e else some b

/-- The job of highest priority; among jobs of that priority the earliest accepted (R26, R28). -/
def highest (es : List JobEntry) : Option JobEntry := es.foldl preferHigh none

/-- The weaker of two jobs: the lower priority, the later one on a tie (R29). -/
def preferLow (worst : Option JobEntry) (e : JobEntry) : Option JobEntry :=
  match worst with
  | none => some e
  | some b => if e.record.priority ≤ b.record.priority then some e else some b

/-- The job of lowest priority; among jobs of that priority the latest accepted (R29). -/
def lowest (es : List JobEntry) : Option JobEntry := es.foldl preferLow none

/-- The job that planning would take next (R26). -/
def State.nextToPlan (s : State) : Option JobEntry := highest (s.jobs.filter s.eligible)

/-- The job that the Turner would call next (R28). -/
def State.nextToCall (s : State) : Option JobEntry := highest (s.jobs.filter fun e => e.state = .planned)

/-- The job that would give way to a displacement (R29). -/
def State.weakest (s : State) : Option JobEntry :=
  lowest (s.jobs.filter fun e => e.state = .planned || e.state = .called)

/-! ### Planning (R26, R38 to R40) -/

/-- The five planning constants copied at a planning start (R40). -/
def planConstsOf (c : Consts) : PlanConsts := ⟨c.smin, c.gminStd, c.gminNarrow, c.gmax, c.knife⟩

/-- The paper class a record names, as the store holds it (R39). -/
def State.classOf (s : State) (n : Nat) : PaperClass := s.store.classes.getD n PaperClass.default

/-- A planning start for a job in a bank (R26, R38, R39, R40). -/
def State.startPlan (s : State) (e : JobEntry) (bk : BankId) : State :=
  let s := s.setPlanner (some ⟨e.record.number, bk, planConstsOf s.store.consts, Timer.start planMs⟩)
  let s := s.setBank bk ⟨some e.record.number, .planning, 0, [], some (s.classOf e.record.paperClass)⟩
  let s := s.onEntry e.record.number fun e => { e with bank := some bk }
  s.moveJob e.record.number .planning .none

/-- The Job Table starts planning whenever its three conditions hold together (R26). -/
def planStart (s : State) : Option State :=
  match s.planner, s.freeBank, s.nextToPlan with
  | none, some bk, some e => some (s.startPlan e bk)
  | _, _, _ => none

/-! ### The Turner's call (R28, R126) -/

/-- A call withdrawn: the called job becomes absent and the Turner returns to EMPTY (R126). A rejected-pile mark stays, also into
the next call, where no pallet sends the Turner on to CLEARANCE (log 47). -/
def State.withdrawCall (s : State) : State := s.setInfeed { s.infeed with turner := .empty, called := none }

/-- The Turner calls a job (R28, R126). That the JOB notice CALLED is queued before the WAIT notice PILE is the model's choice
(log 28). -/
def State.callJob (s : State) (e : JobEntry) : State :=
  let s := s.setInfeed { s.infeed with turner := .calling, called := some e.record.number }
  (s.moveJob e.record.number .called .none).await (.pile e.record.number)

/-- The Turner, EMPTY, calls when a PLANNED job stands in the table (R28). -/
def turnerCall (s : State) : Option State :=
  match s.infeed.turner, s.nextToCall with
  | .empty, some e => some (s.callJob e)
  | _, _ => none

/-! ### Displacement (R29) -/

/-- A job gives way: its call, if it was CALLED, is withdrawn, its bank becomes EMPTY, and it goes back to QUEUED in its
place (R29). -/
def State.displace (s : State) (e : JobEntry) : State :=
  let s := if e.state = .called then s.withdrawCall else s
  let s := s.emptyBank e.bank
  let s := s.onEntry e.record.number fun e => { e with bank := none }
  s.moveJob e.record.number .queued .displaced

/-- A displacement occurs whenever its three conditions hold together (R29). -/
def displacement (s : State) : Option State :=
  match s.freeBank, s.weakest, s.nextToPlan with
  | none, some w, some e => if w.record.priority < e.record.priority then some (s.displace w) else none
  | _, _, _ => none

/-! ### Lifts and the end of a job (R32) -/

/-- The job becomes DONE when its final lift count is present and equal to its lifts completed (R32). -/
def State.checkDone (s : State) (n : Nat) : State :=
  match s.entry n with
  | some e => if e.finalCount = some e.liftsCompleted then s.endJob e .done .none else s
  | none => s

/-- A lift end of a job (R32). -/
def State.countLift (s : State) (n : Nat) : State :=
  (s.onEntry n fun e => { e with liftsCompleted := e.liftsCompleted + 1 }).checkDone n

/-- The job's pile is exhausted with a final lift count (R32). -/
def State.setFinal (s : State) (n count : Nat) : State :=
  (s.onEntry n fun e => { e with finalCount := some count }).checkDone n

/-! ### The end of a planning operation (R27, R41) -/

/-- The planning result of the operation in progress (R41). -/
def State.planOutcome (s : State) : Option (PlanOp × PlanResult) :=
  match s.planner with
  | none => none
  | some op => (s.entry op.job).map fun e => (op, planResult e.record op.consts)

/-- PLAN_DONE: the bank becomes READY with the steps, and the job PLANNED (R27, R41). -/
def State.planReady (s : State) (op : PlanOp) (steps : List CutStep) : State :=
  let s := s.setPlanner none
  let s := s.setBank op.bank { s.bank op.bank with state := .ready, stepCount := steps.length, steps := steps }
  s.moveJob op.job .planned .none

/-- PLAN_REFUSED: the bank becomes EMPTY and the job leaves as REFUSED (R27, R41, R58). -/
def State.planRefuse (s : State) (op : PlanOp) (why : JobReason) : State :=
  let s := (s.setPlanner none).emptyBank (some op.bank)
  (s.dropEntry op.job).notify (.job op.job .refused why)

/-- The bank of a job's first load becomes IN_USE (R37). -/
def State.takeBank (s : State) (bk : BankId) : State :=
  if (s.bank bk).state = .ready then s.setBank bk { s.bank bk with state := .inUse } else s

end Sys2Proof.Machine
end

