-- ==== Sys2Proof/Machine/RunnerOps.lean ====
section
/-! DEFINITION. The Program Runner: steps, completed cuts, take-aways, holds, lift end, clearance, and what it asks of the
Gauge Axis (chapter 4, R7 to R16). -/
namespace Sys2Proof.Machine

/-! ### Steps (R63 to R65) -/

/-- The bank of the current lift (R59). -/
def State.liftBank (s : State) : Option Bank := s.runner.lift.map fun l => s.bank l.bank

/-- The step at the step index (R59). -/
def State.theStep (s : State) : Option CutStep := s.liftBank.bind fun bk => bk.steps[s.runner.stepIndex]?

/-- The kind of a step, as STEP and WAIT notices name it (section 12.6). -/
def StepAction.kind (a : StepAction) : StepKind :=
  match a with
  | .cut _ _ _ => .cut
  | .turn _ => .turn
  | .recall => .recall
  | .take _ => .take

/-- The Runner has a step in a phase. -/
def Runner.inPhase (r : Runner) (p : StepPhase) : Bool := r.state = .running && r.phase = some p

/-- The phase of the step in progress replaced. -/
def State.setPhase (s : State) (p : StepPhase) : State := s.setRunner { s.runner with phase := some p }

/-- The result of a move that is absent: no LIMITED mark, target and actual 0. -/
def MoveResult.zero : MoveResult := ⟨false, 0, 0⟩

/-- The STEP notice of the step in progress (R80). -/
def State.stepNotice (s : State) (t : CutStep) (result : StepResult) (move : MoveResult) : State :=
  match s.runner.lift with
  | some l => s.notify (.step l.job l.lift t.index t.action.kind result move)
  | none => s

/-- The plate check of PREPARE (R65): POSITIONING, or PREPARE with a WAIT notice PLATE. -/
def State.checkPlate (s : State) (plate : Bool) : State :=
  if plate && !s.on .plateFitted then (s.setPhase .prepare).await .plate else s.setPhase .positioning

/-- A step begins in its first phase (R63). -/
def State.startStep (s : State) : State :=
  let s := s.setRunner { s.runner with state := .running, moveResult := none, takeOk := false, faultBack := false }
  match s.theStep with
  | some t =>
    match t.action with
    | .cut _ _ plate => s.checkPlate plate
    | .turn _ => s.setPhase .parking
    | .recall => s.setPhase .parking
    | .take _ => (s.setPhase .awaitConfirm).await (.stepOk .take)
  | none => s.setRunner { s.runner with phase := none }

/-- A step begins, or the Runner goes to HELD (R63). -/
def State.beginStep (s : State) : State :=
  if s.runner.hold || s.runner.firstOff then s.setRunner { s.runner with state := .held, phase := none }
  else s.startStep

/-- The lift on the table ends (R76). -/
def State.endLift (s : State) : State :=
  match s.runner.lift with
  | none => s
  | some l =>
    let s := s.notify (.lift l.job l.lift s.runner.tally)
    let s := s.countLift l.job
    s.setRunner
      { s.runner with
        state := .liftEnd
        lift := none
        ended := some ⟨l.job, l.lift⟩
        phase := none
        working := none
        cutoff := none
        aside := []
        lastDone := false
        takeOk := false }

/-- A step completes (R63): the next begins, or the lift ends, or the Runner is HELD for the inspection (R74). -/
def State.completeStep (s : State) : State :=
  let count := (s.liftBank.map Bank.stepCount).getD 0
  if s.runner.stepIndex + 1 < count then
    (s.setRunner { s.runner with stepIndex := s.runner.stepIndex + 1 }).beginStep
  else if s.runner.firstOff then s.setRunner { s.runner with state := .held, phase := none, lastDone := true }
  else s.endLift

/-- A held step begins, or the lift ends if no step remains (R74, R75). -/
def State.resumeHeld (s : State) : State :=
  if s.runner.state = .held && !s.runner.hold && !s.runner.firstOff then
    if s.runner.lastDone then s.endLift else s.startStep
  else s

/-! ### Load (R62) -/

/-- The Runner loads a lift (R62): only a Runner in LOADING, and a job whose bank the table records. -/
def State.loadLift (s : State) (l : LiftRec) : State :=
  match s.entry l.job with
  | none => s
  | some e =>
    match e.bank with
    | none => s
    | some bk =>
      if s.runner.state = .loading then
        let s := s.takeBank bk
        let s :=
          s.setRunner
            { s.runner with
              lift := some ⟨l.job, l.lift, bk⟩
              tally := Tally.zero
              working := some (stackAtLoad e.record l)
              cutoff := none
              stepIndex := 0
              lastDone := false }
        s.beginStep
      else s

/-! ### Cuts (R68, R69, R10) -/

/-- An abort or a stop hands entry passed to the Runner: the partial-cut marker of a CUT step in CYCLE is set (R10, R69). -/
def State.markPartial (s : State) : State :=
  if s.cycle.entryPassed && s.runner.inPhase .cycle then
    s.setRunner { s.runner with working := s.runner.working.map fun w => { w with partialCut := true } }
  else s

/-- A completed cut counted in the tally (R16, R68). -/
def Tally.countCut (t : Tally) (recut limited : Bool) : Tally :=
  { t with
    strokes := t.strokes + 1
    recuts := if recut then t.recuts + 1 else t.recuts
    limited := if limited then t.limited + 1 else t.limited }

/-- The stroke is counted: the Runner completes the cut on the Working Stack with clamped height `h` (R68, R9, R16). -/
def State.completeCut (s : State) (h : Nat) : State :=
  match s.theStep, s.runner.working with
  | some t, some w =>
    match t.action with
    | .cut n d _ =>
      if s.runner.inPhase .cycle then
        s.setRunner
          { s.runner with
            working := some (stackAfterCut w n h t.strip d)
            cutoff := some (cutOffOf w n h t.strip d)
            tally := s.runner.tally.countCut w.partialCut ((s.runner.moveResult.map MoveResult.limited).getD false) }
      else s
    | .turn _ => s
    | .recall => s
    | .take _ => s
  | _, _ => s

/-- A cycle end without a counted stroke returns the step to AWAIT_START with a STEP notice ABORTED (R69). -/
def State.stepAborted (s : State) : State :=
  match s.theStep with
  | some t => (s.setPhase .awaitStart).stepNotice t .aborted (s.runner.moveResult.getD MoveResult.zero)
  | none => s.setPhase .awaitStart

/-- The cycle end reaches the Runner (R68, R69, R112): it changes nothing unless a CUT step is in CYCLE. -/
def State.takeCycleEnd (s : State) (counted : Bool) : State :=
  if s.runner.inPhase .cycle then if counted then s.setPhase .takeaway else s.stepAborted else s

/-! ### Take-aways (R12, R70, R73, R74) -/

/-- A take-away counted (R12, R16). -/
def Tally.countTake (t : Tally) (d : Disposition) : Tally :=
  match d with
  | .waste => { t with waste := t.waste + 1 }
  | .output => { t with outputs := t.outputs + 1 }
  | .aside => t

/-- A TAKE step's disposition (R12). -/
def TakeDisposition.disp (d : TakeDisposition) : Disposition :=
  match d with
  | .waste => .waste
  | .output => .output

/-- The first-off check of the current lift's job (R19). -/
def State.firstOffJob (s : State) : Bool :=
  match s.runner.lift with
  | some l => l.lift = 1 && ((s.entry l.job).map fun e => e.record.firstOff).getD false
  | none => false

/-- The first OUTPUT take-away of lift 1 of a first-off job makes the inspection pending (R74). -/
def State.inspectFirst (s : State) (d : Disposition) : State :=
  if d = .output && s.runner.tally.outputs = 1 && s.firstOffJob then
    (s.setRunner { s.runner with firstOff := true }).await .inspect
  else s

/-- The take-away of a CUT step ends (R70, R12). -/
def State.endTakeaway (s : State) (t : CutStep) (c : CutOff) : State :=
  let s :=
    s.setRunner
      { s.runner with
        cutoff := none
        aside := if c.disp = .aside then s.runner.aside ++ [asideOf c.stack] else s.runner.aside
        tally := s.runner.tally.countTake c.disp }
  let s := s.stepNotice t .done (s.runner.moveResult.getD MoveResult.zero)
  (s.inspectFirst c.disp).completeStep

/-- The take-away ends when FRONT_CLEAR is active after the cycle has ended (R70). -/
def takeawayEnd (s : State) : Option State :=
  if s.runner.inPhase .takeaway && s.on .frontClear then
    match s.theStep, s.runner.cutoff with
    | some t, some c => some (s.endTakeaway t c)
    | _, _ => none
  else none

/-- The take-away of a TAKE step ends (R73, R12). -/
def State.endTake (s : State) (t : CutStep) (d : TakeDisposition) : State :=
  let s :=
    s.setRunner
      { s.runner with working := none, takeOk := false, tally := s.runner.tally.countTake d.disp }
  let s := s.stepNotice t .done MoveResult.zero
  (s.inspectFirst d.disp).completeStep

/-- A confirmed TAKE ends as soon as FRONT_CLEAR is active (R73). -/
def takeEnd (s : State) : Option State :=
  if s.runner.inPhase .awaitConfirm && s.runner.takeOk && s.on .frontClear then
    match s.theStep with
    | some t =>
      match t.action with
      | .take d => some (s.endTake t d)
      | .cut _ _ _ => none
      | .turn _ => none
      | .recall => none
    | none => none
  else none

/-- LIFT_END ends when the table is empty (R76). -/
def liftEndLeave (s : State) : Option State :=
  if s.runner.state = .liftEnd && !s.on .loadInPlace && s.on .frontClear then
    some (s.setRunner { s.runner with state := .idle, ended := none })
  else none

/-! ### PREPARE (R65, R67) -/

/-- A step waiting in PREPARE goes to POSITIONING once the plate is fitted; one sent back by a fault waits for the last
guillotine station fault to be cleared and is then checked anew (R65, R67, log 11). -/
def prepareLeave (s : State) : Option State :=
  if s.runner.inPhase .prepare then
    match s.theStep with
    | some t =>
      match t.action with
      | .cut _ _ plate =>
        if s.runner.faultBack then
          if s.guillotineHalt then none
          else some ((s.setRunner { s.runner with faultBack := false }).checkPlate plate)
        else if plate && !s.on .plateFitted then none
        else some (s.setPhase .positioning)
      | .turn _ => none
      | .recall => none
      | .take _ => none
    | none => none
  else none

/-! ### Moves (R60, R64, R66, R71) -/

/-- The Runner may ask a move (R64): no stop and no guillotine station fault; the axis has left FAULTED (R98). -/
def State.mayAsk (s : State) : Bool := !s.stop && !s.guillotineHalt && s.gauge.state ≠ .faulted

/-- The park position for a length (R60, R71): the smaller of the length plus the park clearance and Gmax. -/
def State.parkFor (s : State) (along : Nat) : Nat := min (along + s.store.consts.parkClearance) s.store.consts.gmax

/-- The move that the step's phase asks (R66, R71). -/
def State.stepMove (s : State) (t : CutStep) : Option MoveReq :=
  match s.runner.phase, t.action with
  | some .positioning, .cut n _ _ =>
    some (.cut n ((s.runner.working.map StackRec.height).getD 0)
      ((s.runner.lift.map fun l => ((s.bank l.bank).snapshot.getD PaperClass.default).draw).getD 0))
  | some .parking, .turn _ => some (.park (s.parkFor t.expAlong))
  | some .parking, .recall => some (.park (s.parkFor t.expAlong))
  | _, _ => none

/-- The Runner asks its step's move, once, when it may (R64). -/
def askStep (s : State) : Option State :=
  if s.runner.state = .running && s.runner.asked = none && s.mayAsk then
    match s.theStep.bind s.stepMove with
    | some req => some ((s.setRunner { s.runner with asked := some .step }).askMove req)
    | none => none
  else none

/-- The lift that the Jogger holds or receives (R60). -/
def State.joggerLift (s : State) : Option LiftId :=
  match s.jogger.state with
  | .receiving => s.infeed.held.map fun l => ⟨l.job, l.lift⟩
  | .jogging | .aligned | .failed | .handing => s.jogger.lift.map fun l => ⟨l.job, l.lift⟩
  | .empty | .clearance => none

/-- The IDLE Runner asks the handover park for the Jogger's lift, once for each lift (R60). A lift is its job's number and its
lift number (R59), so that a park kept from a withdrawn job serves a lift of the same numbers of a later job (log 39). -/
def askHandover (s : State) : Option State :=
  if s.runner.state = .idle && s.mayAsk then
    match s.joggerLift with
    | some l =>
      match s.entry l.job with
      | some e =>
        if e.state = .running && s.runner.park ≠ some l && s.runner.asked ≠ some (.handover l) then
          some ((s.setRunner { s.runner with asked := some (.handover l) }).askMove (.park (s.parkFor e.record.sheetL)))
        else none
      | none => none
    | none => none
  else none

/-- A completed move reaches the Runner (R60, R66, R71, R86); one that the Runner no longer awaits changes nothing. -/
def State.moveReported (s : State) (m : MoveResult) : State :=
  match s.runner.asked with
  | none => s
  | some (.handover l) => s.setRunner { s.runner with asked := none, park := some l }
  | some .step =>
    let s := s.setRunner { s.runner with asked := none, moveResult := some m }
    if s.runner.inPhase .positioning then s.setPhase .awaitStart
    else if s.runner.inPhase .parking then
      let s := s.setPhase .awaitConfirm
      match s.theStep with
      | some t => s.await (.stepOk t.action.kind)
      | none => s
    else s

/-! ### Clearance (R77) -/

/-- The Runner holds material of a job (R31, R77). A job is known by its number, so that the ended lift of a DONE job counts as
a later job's of the same number (log 39). -/
def State.runnerHolds (s : State) (n : Nat) : Bool :=
  match s.runner.state with
  | .loading => s.jogger.lift.map LiftRec.job = some n
  | .running | .held => s.runner.lift.map CurrentLift.job = some n
  | .liftEnd => s.runner.ended.map LiftId.job = some n
  | .idle | .clearance => false

/-- The Runner goes to CLEARANCE at a withdrawal (R77). -/
def State.clearRunner (s : State) : State :=
  let s :=
    s.setRunner
      { s.runner with
        state := .clearance
        lift := none
        ended := none
        stepIndex := 0
        phase := none
        firstOff := false
        park := none
        moveResult := none
        working := none
        cutoff := none
        aside := []
        tally := Tally.zero
        asked := none
        takeOk := false
        faultBack := false
        lastDone := false }
  s.await (.clearance .runner)

end Sys2Proof.Machine
end

