-- ==== Sys2Proof/Machine/CycleOps.lean ====
section
/-! DEFINITION. The Cut Cycle unit and the two-hand monitor: requests, aborts, stops, the cycle's end and the monitor's
moves (chapter 6). -/
namespace Sys2Proof.Machine

/-! ### The two-hand monitor (R120 to R122) -/

/-- The monitor replaced, with no window running. -/
def Cycle.setMonitor (c : Cycle) (m : Monitor) : Cycle := { c with monitor := m, windowTimer := Timer.stopped }

/-- ENGAGED goes to SPENT (R122). -/
def Cycle.spend (c : Cycle) : Cycle := if c.monitor = .engaged then c.setMonitor .spent else c

/-- SPENT goes to IDLE once both hand inputs are inactive (R120, R121). -/
def Cycle.refresh (c : Cycle) (left right : Bool) : Cycle :=
  if c.monitor = .spent && !left && !right then c.setMonitor .idle else c

/-- The cycle is in a state in which an abort acts (R113). -/
def Cycle.cutting (c : Cycle) : Bool :=
  match c.state with
  | .clamping | .dwell | .strokeDown => true
  | .ready | .waitGrant | .strokeUp | .unclamp | .abortReturn | .stopped | .returnNeeded => false

/-- The cycle is in one of the moving states, which hold the grant (R104, R116). -/
def Cycle.moving (c : Cycle) : Bool :=
  match c.state with
  | .clamping | .dwell | .strokeDown | .strokeUp | .unclamp | .abortReturn => true
  | .ready | .waitGrant | .stopped | .returnNeeded => false

/-- The return state as a cycle state (R103, R106). -/
def ReturnState.cycleState (r : ReturnState) : CycleState :=
  match r with
  | .ready => .ready
  | .returnNeeded => .returnNeeded

/-! ### Raising and withdrawing a request (R105, R106) -/

/-- A request for purpose CUT is raised (R105): a new cycle, with pressure step and dwell of the current lift's snapshot. -/
def State.raiseCut (s : State) : State :=
  let snap := ((s.liftBank.bind Bank.snapshot).getD PaperClass.default)
  let s :=
    s.setCycle
      { s.cycle with
        state := .waitGrant
        purpose := some .cut
        returnState := .ready
        entryPassed := false
        counted := false
        height := none
        pressureStep := snap.pressure
        dwell := snap.dwell
        faulted := false }
  s.raise .cut

/-- A request for purpose RETURN is raised (R105, R118). -/
def State.raiseReturn (s : State) : State :=
  (s.setCycle { s.cycle with state := .waitGrant, purpose := some .ret, returnState := .returnNeeded }).raise .cut

/-- ENGAGED has been reached: R105 takes the engagement. -/
def State.engage (s : State) : State :=
  match s.cycle.state with
  | .ready =>
    if s.runner.inPhase .awaitStart && !s.on .curtain && !s.stop then s.raiseCut else s.setCycle s.cycle.spend
  | .returnNeeded => if s.stop then s.setCycle s.cycle.spend else s.raiseReturn
  | .waitGrant | .clamping | .dwell | .strokeDown | .strokeUp | .unclamp | .abortReturn | .stopped =>
    s.setCycle s.cycle.spend

/-- The cycle of a withdrawn or dropped request goes back to its return state (R106). A withdrawn CUT leaves no purpose; a
withdrawn RETURN keeps its purpose in RETURN_NEEDED (log 13). -/
def Cycle.backFromWait (c : Cycle) : Cycle :=
  { c with
    state := c.returnState.cycleState
    purpose := match c.returnState with | .ready => none | .returnNeeded => c.purpose }

/-- A request standing in WAIT_GRANT is withdrawn at the Arbiter (R106). -/
def State.withdrawCycle (s : State) : State := (s.setCycle s.cycle.backFromWait).withdrawRequest .cut

/-- A CUT request in WAIT_GRANT is withdrawn other than by a release: the monitor goes to SPENT (R106, R122). -/
def State.withdrawCut (s : State) : State :=
  if s.cycle.state = .waitGrant && s.cycle.purpose = some .cut then
    (s.setCycle s.cycle.spend).withdrawCycle
  else s

/-! ### Aborts and stops (R113 to R116) -/

/-- A CUT cycle before KNIFE_BOTTOM is aborted (R113, R115): the Runner takes entry passed, the monitor goes to SPENT. -/
def State.abortCycle (s : State) (faulted : Bool) : State :=
  if s.cycle.cutting then
    let s := s.markPartial
    s.setCycle
      { s.cycle.spend with state := .abortReturn, faulted := s.cycle.faulted || faulted, dwellTimer := Timer.stopped }
  else s

/-- A stop reaches the Cut Cycle unit (R116). The Arbiter has revoked the grant and dropped the request. -/
def State.stopCycle (s : State) : State :=
  if s.cycle.state = .waitGrant then s.setCycle s.cycle.spend.backFromWait
  else if s.cycle.moving then
    let s := if s.cycle.counted then s else s.markPartial
    s.setCycle { s.cycle.spend with state := .stopped, dwellTimer := Timer.stopped }
  else s

/-! ### The end of a cycle (R112, R117) -/

/-- The cycle record at READY after its end (R112). -/
def Cycle.ended (c : Cycle) : Cycle :=
  { c.spend with
    state := .ready
    purpose := none
    entryPassed := false
    counted := false
    height := none
    faulted := false
    dwellTimer := Timer.stopped }

/-- The cycle ends (R112, R117): the grant, if held, is released, and the Runner takes the outcome. COUNTED sends its step to
TAKEAWAY; ABORTED and FAULTED return it to AWAIT_START (R69, R115), from where a standing fault sends it to PREPARE (R67). -/
def State.endCycle (s : State) : State :=
  let counted := s.cycle.counted
  let s := if s.arbiter.holder = some .cut then s.release else s
  (s.setCycle s.cycle.ended).takeCycleEnd counted

/-- The cycle leaves STOPPED when the fault set holds no STOP-class fault (R117). -/
def cycleUnstop (s : State) : Option State :=
  if s.cycle.state = .stopped && !s.stop then
    if s.on .knifeTop && s.on .clampTop then some s.endCycle
    else some (s.setCycle { s.cycle with state := .returnNeeded })
  else none

/-- A step in AWAIT_START while a guillotine station fault is latched goes back to PREPARE (R67, log 10), and a CUT request in
WAIT_GRANT is withdrawn (R106). -/
def State.backToPrepare (s : State) : State :=
  if s.runner.inPhase .awaitStart then
    (s.setRunner { s.runner with phase := some .prepare, faultBack := true }).withdrawCut
  else s

/-- The level form of R67: a guillotine station fault stands while a step is in AWAIT_START. -/
def startRevoked (s : State) : Option State :=
  if s.runner.inPhase .awaitStart && s.guillotineHalt then some s.backToPrepare else none

/-! ### The grant to the Cut Cycle unit (R106, R107, R118) -/

/-- The grant reaches the Cut Cycle unit (R106, R107, R118). A RETURN granted with knife and clamp at the top ends at once
(log 12). -/
def State.grantCut (s : State) : State :=
  match s.cycle.purpose with
  | some .cut =>
    let s := s.setCycle { s.cycle with state := .clamping }
    if s.runner.inPhase .awaitStart then s.setPhase .cycle else s
  | some .ret =>
    if !s.on .knifeTop then s.setCycle { s.cycle with state := .strokeUp }
    else if !s.on .clampTop then s.setCycle { s.cycle with state := .unclamp }
    else s.endCycle
  | none => s

end Sys2Proof.Machine
end

