-- ==== Sys2Proof/Machine/JoggerOps.lean ====
section
/-! DEFINITION. The Jogger and the handover: jogging, the edge scan, the pusher and the transfer (chapter 8). -/
namespace Sys2Proof.Machine

/-! ### Jogging (R144 to R149) -/

/-- No pulses. -/
def zeroCounts : EdgeCounts := ⟨0, 0, 0, 0, 0⟩

/-- A fresh edge scan with the scan resolution of this moment (R145). -/
def State.freshScan (s : State) : ScanRun := ⟨s.store.consts.res, zeroCounts, Timer.start scanMs⟩

/-- Jogging starts (R144): pass count 0, a fresh timer against the snapshot's limit and a first scan; during a stop neither
runs. -/
def State.startJog (s : State) (intensity : Nat) (rejogUsed : Bool) : State :=
  let limit := ((s.jogger.lift.map fun l => s.snapshot l.job).getD PaperClass.default).jogLimit * 1000
  s.setJogger
    { s.jogger with
      state := .jogging
      intensity := intensity
      rejogUsed := rejogUsed
      pass := 0
      jogTimer := if s.stop then Timer.stopped else Timer.start limit
      scan := if s.stop then none else some s.freshScan }

/-- Jogging starts at the class base intensity with the re-jog available (R144). -/
def State.startBaseJog (s : State) : State :=
  s.startJog ((s.jogger.lift.map fun l => s.snapshot l.job).getD PaperClass.default).intensity false

/-- The end of jogging: air, vibration, timer and scan off (R146, R147). -/
def Jogger.endJog (j : Jogger) (st : JoggerState) : Jogger :=
  { j with state := st, jogTimer := Timer.stopped, scan := none }

/-- A count kept at the top of its counter of `res` bits (R145). -/
def saturated (res count : Nat) : Nat := min count (2 ^ res - 1)

/-- The counters of a scan at its end (R145). -/
def saturatedCounts (res : Nat) (p : EdgeCounts) : EdgeCounts :=
  ⟨saturated res p.rf1, saturated res p.rf2, saturated res p.rf3, saturated res p.sf1, saturated res p.sf2⟩

/-- A channel is in contact: its scaled count is at least its threshold (R145). -/
def inContact (res count threshold : Nat) : Bool := threshold ≤ count * 2 ^ (16 - res)

/-- The scan passes when all five channels are in contact (R145). -/
def scanPasses (res : Nat) (p threshold : EdgeCounts) : Bool :=
  inContact res p.rf1 threshold.rf1 && inContact res p.rf2 threshold.rf2 && inContact res p.rf3 threshold.rf3
    && inContact res p.sf1 threshold.sf1 && inContact res p.sf2 threshold.sf2

/-- Pulses counted by a scan in progress (R145). -/
def addCounts (a b : EdgeCounts) : EdgeCounts :=
  ⟨a.rf1 + b.rf1, a.rf2 + b.rf2, a.rf3 + b.rf3, a.sf1 + b.sf1, a.sf2 + b.sf2⟩

/-- A stop halts jogging (R149): the scan is discarded, the pass count is 0, the timer stops. -/
def Jogger.stop (j : Jogger) : Jogger :=
  if j.state = .jogging then { j with pass := 0, jogTimer := Timer.stopped, scan := none } else j

/-- Jogging halted by a stop starts again when the stop has ended, as it was (R149). -/
def jogRestart (s : State) : Option State :=
  if s.jogger.state = .jogging && !s.jogger.jogTimer.running && !s.stop then
    some (s.startJog s.jogger.intensity s.jogger.rejogUsed)
  else none

/-- JOG_FAILED has been removed by a CLEAR: jogging starts anew (R148). -/
def jogRetry (s : State) : Option State :=
  if s.jogger.state = .failed && !s.faults.jogFailed then some s.startBaseJog else none

/-! ### The pusher (R141, R152) -/

/-- A direction given to the pusher: paused from the start if it moves while CURTAIN is broken (R151, R152). A pause in
progress goes on, with its clear interval, until CURTAIN has been clear for 500 ms (R152). -/
def Jogger.push (j : Jogger) (d : PusherDir) (broken : Bool) : Jogger :=
  let moves := d ≠ .hold
  { j with
    pusher := d
    paused := moves && (broken || j.paused)
    clearTimer := if moves && j.paused && !broken then j.clearTimer else Timer.stopped }

/-- The pusher output (R141, R149, R152): HOLD during a stop and during a curtain pause. -/
def State.pusherOutput (s : State) : PusherDir := if s.stop || s.jogger.paused then .hold else s.jogger.pusher

/-- CURTAIN breaks: a moving pusher is paused, and its clear interval is void (R152). A pusher in HOLD has nothing to pause. -/
def Jogger.pause (j : Jogger) : Jogger :=
  if j.pusher = .hold then j else { j with paused := true, clearTimer := Timer.stopped }

/-- CURTAIN clears: the 500 ms of a paused pusher start (R152). -/
def Jogger.curtainClear (j : Jogger) : Jogger :=
  if j.paused then { j with clearTimer := Timer.start clearMs } else j

/-! ### The transfer (R151 to R153) -/

/-- The Jogger is empty again, the pusher holding at home (R152). -/
def Jogger.emptied (j : Jogger) : Jogger :=
  { j with state := .empty, phase := .none, pusher := .hold, paused := false, clearTimer := Timer.stopped }

/-- The transfer completes (R152): the Runner loads the lift and the pusher goes back, or the Jogger is EMPTY at once where the
pusher already stands home (R153; in PUSH the model's choice, log 14). -/
def State.completeTransfer (s : State) (l : LiftRec) : State :=
  let j := { s.jogger with lift := none, intensity := 0, phase := .ret, transferTimer := s.jogger.transferTimer.halt }
  let s := s.setJogger (if s.on .pusherHome then j.emptied else j.push .back (s.on .curtain))
  s.loadLift l

/-- The transfer begins (R151, R61). -/
def State.beginTransfer (s : State) (l : LiftRec) : State :=
  let j :=
    { s.jogger with
      state := .handing
      phase := .push
      transferTimer := Timer.start (s.store.consts.transferLimit * 100) }
  let s := s.setJogger (j.push .forward (s.on .curtain))
  let s := s.setRunner { s.runner with state := .loading, park := none, asked := none }
  if s.on .loadInPlace then s.completeTransfer l else s

/-- The transfer begins when both holds are released (R150, R151). -/
def transferBegin (s : State) : Option State :=
  if s.joggerHoldReleased && s.tableHoldReleased then s.jogger.lift.map s.beginTransfer else none

/-- TRANSFER_TIMEOUT has left the set with LOAD_IN_PLACE inactive: the transfer ends without load (R153, R61). -/
def transferAbandoned (s : State) : Option State :=
  if s.jogger.phase = .timedOut && !s.faults.transferTimeout && !s.on .loadInPlace then
    let s := s.setJogger { s.jogger with phase := .none }
    let s := if s.runner.state = .loading then s.setRunner { s.runner with state := .idle } else s
    some s.startBaseJog
  else none

/-! ### Withdrawal (R154) -/

/-- The Jogger holds material of a job (R31, R142). -/
def Jogger.holds (j : Jogger) (n : Nat) : Bool :=
  match j.state with
  | .receiving => j.receivingFor = some n
  | .jogging | .aligned | .failed | .handing => j.lift.map LiftRec.job = some n
  | .empty | .clearance => false

/-- The Jogger goes to CLEARANCE at a withdrawal (R154). -/
def State.clearJogger (s : State) : State :=
  let s :=
    s.setJogger
      { s.jogger with
        state := .clearance
        lift := none
        receivingFor := none
        intensity := 0
        rejogUsed := false
        jogTimer := Timer.stopped
        pass := 0
        scan := none
        phase := .none
        transferTimer := s.jogger.transferTimer.halt
        pusher := .hold
        paused := false
        clearTimer := Timer.stopped }
  s.await (.clearance .jogger)

end Sys2Proof.Machine
end

