-- ==== Sys2Proof/Machine/InfeedOps.lean ====
section
/-! DEFINITION. The Infeed: hydraulic motions, the pile's intake, turning and division, picks and deposits, exhaustion, a lost
pile, withdrawal and clearance (chapter 7). -/
namespace Sys2Proof.Machine

/-! ### Lift division (R131, R132) -/

/-- ceil(p / h). -/
def ceilDiv (p h : Nat) : Nat := (p + h - 1) / h

/-- The height limit Hd of a job's pile (R131). -/
def heightLimit (hmax : Nat) (r : JobRecord) : Nat :=
  match r.fixedCount with
  | some _ => hmax
  | none => min r.liftHeight hmax

/-- The lift count n of a pile of height `p` under limit `hd` (R131). -/
def liftCount (r : JobRecord) (p hd : Nat) : Nat :=
  let n :=
    match r.fixedCount with
    | some fixed => if fixed * hd < p then ceilDiv p hd else fixed
    | none => ceilDiv p hd
  min n maxLifts

/-- The division base = R div m, r = R mod m over `m` lifts to go (R131). -/
def PileRec.divide (p : PileRec) (m : Nat) : PileRec := { p with base := p.remaining / m, extra := p.remaining % m }

/-- The height of the next lift in the division (R131, R133). -/
def PileRec.aim (p : PileRec) : Nat := if 0 < p.extra then p.base + 1 else p.base

/-- The lifts to go. -/
def PileRec.toGo (p : PileRec) : Nat := p.count - p.picked

/-- R132, step 3: the count grows where the remaining height cannot be divided within the limit. -/
def PileRec.grow (p : PileRec) : PileRec :=
  if p.toGo * p.limit < p.remaining then { p with count := min (p.picked + ceilDiv p.remaining p.limit) maxLifts } else p

/-- Steps 1 to 4 of R132 on the remaining height and lifts picked as they stand. -/
def PileRec.redivide (p : PileRec) : PileRec :=
  if p.remaining < minPile then { p with exhausted := true }
  else if p.toGo = 0 then
    if maxLifts ≤ p.picked then { p with exhausted := true }
    else
      let p := { p with count := p.count + 1 }
      p.grow.divide p.grow.toGo
  else p.grow.divide p.grow.toGo

/-- The motions that bring GRIP to the rear, face UP (R129, step 3). -/
def rotationsFor (o : Orientation) : List InfeedMotion :=
  if o.rear = .grip then []
  else if o.left = .grip then [.rotateCw]
  else if o.right = .grip then [.rotateCcw]
  else [.rotateCw, .rotateCw]

/-- The Turner's motion list for an orientation (R129). -/
def motionsFor (o : Orientation) : List InfeedMotion :=
  match o.face with
  | .up => .clampPile :: rotationsFor o ++ [.unclamp]
  | .down => .clampPile :: .invert :: rotationsFor o.invert ++ [.unclamp]

/-- The pile's orientation after a motion (R130). -/
def InfeedMotion.apply (m : InfeedMotion) (o : Orientation) : Orientation :=
  match m with
  | .invert => o.invert
  | .rotateCw => o.turn .cw
  | .rotateCcw => o.turn .ccw
  | .clampPile | .unclamp | .pick | .deposit | .ret => o

/-- The pile record formed at intake (R128). -/
def pileAtIntake (hmax : Nat) (r : JobRecord) (height : Nat) : PileRec :=
  let hd := heightLimit hmax r
  let n := liftCount r height hd
  PileRec.divide
    { job := r.number
      orient := ⟨r.rear, r.face⟩
      height := height
      limit := hd
      count := n
      picked := 0
      remaining := height
      base := 0
      extra := 0
      exhausted := false } n

/-- The division of R131 made again on a pile put back before any pick (R137): the count from the job's record and the new
height, under the limit fixed at intake. Without an entry (a state no run reaches) the count stays (log 30). -/
def PileRec.recount (p : PileRec) (e : Option JobEntry) : PileRec :=
  match e with
  | some e =>
    let n := liftCount e.record p.height p.limit
    PileRec.divide { p with count := n } n
  | none => p.divide p.toGo

/-- A pile-top reading is in range at intake and at a pile put back (R127, R137). -/
def pileInRange (p : Nat) : Bool := minPile ≤ p && p ≤ maxPile

/-! ### Motions (R125) -/

/-- The motion the Turner owes (R130, R139). -/
def Infeed.turnerOwed (i : Infeed) : Option InfeedMotion :=
  match i.turner with
  | .turning => i.motions.head?
  | .clearance => if i.unclamped then none else some .unclamp
  | .empty | .calling | .ready | .exhausted => none

/-- The motion the Lift unit owes (R133, R135, R139). A RETURN owed while IDLE, or in CLEARANCE while REAM_HELD is active, is no
motion of this moment: none, also in LINE_INFO (R140, log 42). -/
def Infeed.liftOwed (i : Infeed) : Option InfeedMotion :=
  match i.lift with
  | .picking => some .pick
  | .depositing => some .deposit
  | .returning => some .ret
  | .clearance => if i.clearReturn then some .ret else none
  | .idle | .holding => none

/-- The motion of the Turner in progress or owed (R140). -/
def Infeed.turnerMotion (i : Infeed) : Option InfeedMotion :=
  match i.turnerOrphan with
  | some m => some m
  | none => i.turnerOwed

/-- The motion of the Lift unit in progress or owed (R140). -/
def Infeed.liftMotion (i : Infeed) : Option InfeedMotion :=
  match i.liftOrphan with
  | some m => some m
  | none => i.liftOwed

/-- The units may request and start motions: no stop, no Infeed station fault (R125, R133, R135). -/
def State.infeedFree (s : State) : Bool := !s.stop && !s.infeedHalt

/-- The Turner raises TURN for the motion it owes (R125). -/
def raiseTurn (s : State) : Option State :=
  if s.infeed.turnerOwed.isSome && s.infeed.turnerOrphan.isNone && s.arbiter.holder ≠ some .turn
      && s.arbiter.turn.isNone && s.infeedFree then
    some (s.raise .turn)
  else none

/-- The Lift unit raises LIFT for the motion it owes (R125). -/
def raiseLift (s : State) : Option State :=
  if s.infeed.liftOwed.isSome && s.infeed.liftOrphan.isNone && s.arbiter.holder ≠ some .lift
      && s.arbiter.lift.isNone && s.infeedFree then
    some (s.raise .lift)
  else none

/-- The grant reaches the Turner: its motion timer starts (R125). -/
def State.grantTurn (s : State) : State := s.setInfeed { s.infeed with turnerTimer := Timer.start motionMs }

/-- The grant reaches the Lift unit (R125): a PICK takes its pick height (R133), a DEPOSIT makes the Jogger RECEIVING (R135,
R143). -/
def State.grantLift (s : State) : State :=
  let i := { s.infeed with liftTimer := Timer.start motionMs }
  match s.infeed.liftOwed with
  | some .pick => s.setInfeed { i with pickHeight := s.infeed.pile.map fun p => p.remaining - p.aim }
  | some .deposit =>
    let s := s.setInfeed i
    if s.jogger.state = .empty then
      s.setJogger { s.jogger with state := .receiving, receivingFor := s.infeed.held.map LiftRec.job }
    else s
  | _ => s.setInfeed i

/-- Both units' motions are interrupted (R125): valves off, timers stopped; the motions stay owed, but one whose done would
change no record is discarded (log 16). -/
def Infeed.interrupt (i : Infeed) : Infeed :=
  { i with
    turnerTimer := Timer.stopped
    liftTimer := Timer.stopped
    pickHeight := none
    turnerOrphan := none
    liftOrphan := none }

/-- An Infeed station fault interrupts both units, which give back the unit or withdraw their requests (R125). -/
def State.interruptInfeed (s : State) : State :=
  ((s.setInfeed s.infeed.interrupt).leaveUnit .turn).leaveUnit .lift

/-! ### Turner (R126, R127, R130, R137, R139) -/

/-- The Turner's exit from EMPTY with a pallet standing there: CLEARANCE (R126). -/
def emptyOccupied (s : State) : Option State :=
  if s.infeed.turner = .empty && s.on .pilePresent then
    some
      ((s.setInfeed { s.infeed with turner := .clearance, rejected := false, unclamped := false }).await
        (.clearance .infeed))
  else none

/-- The rejected-pile mark becomes no when the pallet is gone and PILE_BAD is cleared; the call then stands again (R127). Where
another job has been called meanwhile, the WAIT notice names that one (log 47). -/
def rejectedOver (s : State) : Option State :=
  if s.infeed.rejected && !s.on .pilePresent && !s.faults.pileBad then
    let s := s.setInfeed { s.infeed with rejected := false }
    match s.infeed.turner, s.infeed.called with
    | .calling, some n => some (s.await (.pile n))
    | _, _ => some s
  else none

/-- The pile is taken in (R128): the job is RUNNING, the record and its division are formed, turning starts. -/
def State.takePile (s : State) (e : JobEntry) (height : Nat) : State :=
  let pile := pileAtIntake s.store.consts.hmax e.record height
  let s :=
    s.setInfeed
      { s.infeed with
        turner := .turning
        called := none
        pile := some pile
        motions := motionsFor pile.orient }
  s.moveJob e.record.number .running .none

/-- A Turner motion is done (R130, R139). -/
def Infeed.turnerDone (i : Infeed) : Infeed :=
  match i.turner with
  | .turning =>
    match i.motions with
    | m :: rest =>
      { i with
        motions := rest
        pile := i.pile.map fun p => { p with orient := m.apply p.orient }
        turner := if rest.isEmpty then .ready else .turning }
    | [] => i
  | .clearance => { i with unclamped := true }
  | .empty | .calling | .ready | .exhausted => i

/-- The Turner leaves CLEARANCE when its UNCLAMP is done and the pallet is gone (R139). -/
def turnerCleared (s : State) : Option State :=
  if s.infeed.turner = .clearance && s.infeed.unclamped && !s.on .pilePresent then
    some (s.setInfeed { s.infeed with turner := .empty, unclamped := false })
  else none

/-- The pile is exhausted (R136): EXHAUSTED, and the Job Table takes the final lift count. -/
def State.exhaust (s : State) (p : PileRec) : State :=
  (s.setInfeed { s.infeed with pile := some p, turner := .exhausted }).setFinal p.job p.picked

/-- A pile record after a division: kept, or exhausted (R132, R136). -/
def State.storePile (s : State) (p : PileRec) : State :=
  if p.exhausted then s.exhaust p else s.setInfeed { s.infeed with pile := some p }

/-! ### Lift unit (R133 to R135, R139) -/

/-- The Lift unit, IDLE at a READY pile, makes its owed RETURN or starts a PICK (R133). -/
def liftStart (s : State) : Option State :=
  if s.infeed.lift = .idle && s.infeed.turner = .ready && s.infeedFree then
    some
      (s.setInfeed
        { s.infeed with lift := if s.infeed.returnOwed then .returning else .picking, returnJob := none })
  else none

/-- The Lift unit, HOLDING, starts its DEPOSIT once the Jogger is EMPTY (R135). -/
def depositStart (s : State) : Option State :=
  if s.infeed.lift = .holding && s.jogger.state = .empty && s.infeedFree then
    some (s.setInfeed { s.infeed with lift := .depositing })
  else none

/-- The Lift unit in CLEARANCE makes its RETURN once the forks are free and no motion of its own runs (R139). That the RETURN, once
due, stays due where REAM_HELD becomes active again before it is done is the model's choice (DESIGN CHOICE, log 52). -/
def liftClearing (s : State) : Option State :=
  if s.infeed.lift = .clearance && !s.infeed.clearReturn && s.infeed.liftOrphan.isNone && !s.on .reamHeld then
    some (s.setInfeed { s.infeed with clearReturn := true })
  else none

/-- A PICK is done with a ream on the forks (R134, R132). The measured height is the difference as it is, not bounded to the
16,000 tenths of R6 (log 45). -/
def State.countPick (s : State) (p : PileRec) (reading : Nat) : State :=
  let held : LiftRec := ⟨p.job, p.picked + 1, p.remaining - reading⟩
  let s := s.setInfeed { s.infeed with lift := .holding, held := some held, failedPicks := 0 }
  s.storePile ({ p with remaining := reading, picked := p.picked + 1 } : PileRec).redivide

/-- A DEPOSIT is done (R135, R143): the lift record passes to the Jogger and jogging starts. -/
def State.handDeposit (s : State) : State :=
  let held := s.infeed.held
  let s := s.setInfeed { s.infeed with lift := .returning, held := none, returnJob := held.map LiftRec.job }
  if s.jogger.state = .receiving then
    (s.setJogger { s.jogger with lift := held, receivingFor := none }).startBaseJog
  else s

/-- An owed PICK is dropped at an exhaustion found on a pile put back (R137): the Lift unit returns. A PICK that holds the
grant runs to its done and changes no record (log 15). -/
def State.dropPick (s : State) : State :=
  let running := if s.arbiter.holder = some .lift then some InfeedMotion.pick else none
  let s := s.setInfeed { s.infeed with lift := .returning, returnJob := none, liftOrphan := running }
  s.withdrawRequest .lift

/-! ### Withdrawal (R138) -/

/-- The Turner holds the pile of a job (R31, R138). -/
def Infeed.turnerHolds (i : Infeed) (n : Nat) : Bool := i.pile.map PileRec.job = some n

/-- The Lift unit holds a ream of a job (R31, R138). A job is known by its number, so that a RETURN from the deposit of a DONE
job's ream counts as a later job's of the same number (log 39). -/
def Infeed.liftHolds (i : Infeed) (n : Nat) : Bool :=
  match i.lift with
  | .picking => i.pile.map PileRec.job = some n
  | .holding | .depositing => i.held.map LiftRec.job = some n
  | .returning => i.returnJob = some n
  | .idle | .clearance => false

/-- The Turner goes to CLEARANCE at a withdrawal (R138): a granted motion runs to its done and changes no record. -/
def State.clearTurner (s : State) : State :=
  let running := if s.arbiter.holder = some .turn then s.infeed.turnerMotion else none
  let s :=
    s.setInfeed
      { s.infeed with
        turner := .clearance
        pile := none
        motions := []
        pileLost := false
        unclamped := false
        turnerOrphan := running }
  s.withdrawRequest .turn

/-- The Lift unit goes to CLEARANCE at a withdrawal (R138). -/
def State.clearLift (s : State) : State :=
  let running := if s.arbiter.holder = some .lift then s.infeed.liftMotion else none
  let s :=
    s.setInfeed
      { s.infeed with
        lift := .clearance
        held := none
        clearReturn := false
        returnJob := none
        liftOrphan := running }
  s.withdrawRequest .lift

/-- A withdrawal of a RUNNING job reaches the Infeed (R138): one WAIT notice CLEARANCE for the units that clear. -/
def State.clearInfeed (s : State) (n : Nat) : State :=
  let turner := s.infeed.turnerHolds n
  let lift := s.infeed.liftHolds n
  let s := if turner then s.clearTurner else s
  let s := if lift then s.clearLift else s
  if turner || lift then s.await (.clearance .infeed) else s

end Sys2Proof.Machine
end

