-- ==== Sys2Proof/Machine/FaultOps.lean ====
section
/-! DEFINITION. The Fault Register: latching with the blocks' responses (R171, R173, R174), and clearing (R172). -/
namespace Sys2Proof.Machine

/-- The fault set has changed: it is replaced and its FAULT notice is queued (R175). -/
def State.changeFaults (s : State) (f : FaultSet) : State := (s.setFaults f).notify (.fault f)

/-- The stop begins (R173): grant revoked and requests dropped (R162), cycle (R116), gauge (R95), Infeed (R125) and Jogger
(R149) halted. The order among the blocks, which nothing shows, is log 29. -/
def State.stopBegin (s : State) : State :=
  let s := s.revoke.stopCycle.interruptGauge
  let s := s.setInfeed s.infeed.interrupt
  s.setJogger s.jogger.stop

/-- A guillotine station fault's effects (R174): the gauge interrupted (R95), a step in AWAIT_START back in PREPARE (R67), a CUT
cycle before KNIFE_BOTTOM aborted (R115). -/
def State.guillotineBegin (s : State) : State :=
  let s := s.interruptGauge.backToPrepare
  if s.cycle.purpose = some .cut then s.abortCycle true else s

/-- A latching (R171): a kind already in the set changes nothing; another is added, its FAULT notice queued, and the blocks act
(R173, R174). The jogger's station faults are acted on by the Jogger, which latches them itself. -/
def State.latch (s : State) (k : FaultKind) : State :=
  if s.faults.has k then s
  else
    let s := s.changeFaults (s.faults.put k true)
    if k.isStop then s.stopBegin
    else if k.isGuillotine then s.guillotineBegin
    else if k.isInfeed then s.interruptInfeed
    else s

/-- One of the axis's own three faults (R85, R93, R97): the axis is FAULTED, the fault is latched, and a reference run in
progress ends ABORTED (R95), its STEP notice behind the FAULT notice (R175). -/
def State.axisFault (s : State) (k : FaultKind) (valid : Bool) : State :=
  let run := s.gauge.refRun
  let s := (s.faultAxis valid).latch k
  match run with
  | some r => s.refNotice r .aborted
  | none => s

/-- The faults that stay at a CLEAR: those whose clear condition does not hold (R170, R172). -/
def State.uncleared (s : State) : FaultSet :=
  { FaultSet.none with
    eStop := s.faults.eStop && s.on .eStop
    hydPressure := s.faults.hydPressure && !s.on .hydReady
    transferTimeout := s.faults.transferTimeout && !s.on .loadInPlace && !s.on .pusherHome }

/-- A CLEAR on the fault set (R172): the removals together are one change, with one FAULT notice. -/
def State.clearFaults (s : State) : State :=
  if s.uncleared = s.faults then s else s.changeFaults s.uncleared

/-- A pile put back in TURNING, of which no ream has been taken (R137): a reading in range replaces P and R, the division is
made again, and the motion list anew from the present orientation; another latches PILE_BAD again. A motion that holds the
grant runs to a done that changes no record (log 15). -/
def State.resumeTurning (s : State) (p : PileRec) (reading : Nat) : State :=
  if pileInRange reading then
    let running := if s.arbiter.holder = some .turn then s.infeed.turnerMotion else none
    let whole : PileRec := { p with height := reading, remaining := reading }
    s.setInfeed
      { s.infeed with
        pileLost := false
        pile := some (whole.recount (s.entry p.job))
        motions := motionsFor p.orient
        turnerOrphan := running }
  else s.latch .pileBad

/-- A pile put back in READY (R137): before any pick as in TURNING; after one the reading is the new remaining height, divided
again, and a pile found exhausted drops an owed PICK. -/
def State.resumeReady (s : State) (p : PileRec) (reading : Nat) : State :=
  if p.picked = 0 then
    if pileInRange reading then
      let whole : PileRec := { p with height := reading, remaining := reading }
      s.setInfeed { s.infeed with pileLost := false, pile := some (whole.recount (s.entry p.job)) }
    else s.latch .pileBad
  else
    let s := s.setInfeed { s.infeed with pileLost := false }
    let q := ({ p with remaining := reading } : PileRec).redivide
    let s := s.storePile q
    if q.exhausted && s.infeed.lift = .picking then s.dropPick else s

/-- A pile put back is read (R137) once PILE_PRESENT is active and PILE_BAD is out of the set, and the pile-lost mark becomes no.
Outside TURNING and READY (a pile exhausted by a PICK repeated while it was away) the reading changes no record. -/
def pileBack (s : State) : Option State :=
  if s.infeed.pileLost && s.on .pilePresent && !s.faults.pileBad then
    match s.infeed.turner, s.infeed.pile with
    | .turning, some p => some (s.resumeTurning p s.channels.pileTop)
    | .ready, some p => some (s.resumeReady p s.channels.pileTop)
    | _, _ => some (s.setInfeed { s.infeed with pileLost := false })
  else none

end Sys2Proof.Machine
end

