-- ==== Sys2Proof/Machine/Ops.lean ====
section
/-! DEFINITION. What follows of itself: the reactions of the blocks to a change of state, in a fixed order, and the settling of
the part at the end of a command (log 6). -/
namespace Sys2Proof.Machine

/-- A grant is made whenever the unit is FREE with a request pending and no STOP-class fault latched (R158, R160); the grant
reaches the requester in the same moment. -/
def hydGrant (s : State) : Option State :=
  if s.arbiter.unit = .free && !s.stop then
    match s.arbiter.choose (s.store.consts.agingLimit * 100) with
    | none => none
    | some .cut => some (s.setArbiter (s.arbiter.grant .cut)).grantCut
    | some .lift => some (s.setArbiter (s.arbiter.grant .lift)).grantLift
    | some .turn => some (s.setArbiter (s.arbiter.grant .turn)).grantTurn
  else none

/-- The reactions in the order in which they are looked at (log 6). A reaction answers the state after it, or none where its
condition does not hold. -/
def reactions : List (State → Option State) :=
  [hydGrant, axisUnfault, cycleUnstop, startRevoked, jogRestart, jogRetry, transferAbandoned, pileBack, rejectedOver,
   turnerCleared, emptyOccupied, prepareLeave, takeawayEnd, takeEnd, liftEndLeave, transferBegin, askStep, askHandover,
   displacement, planStart, turnerCall, liftClearing, liftStart, depositStart, raiseTurn, raiseLift]

/-- The first reaction whose condition holds. -/
def react (s : State) : Option State := reactions.findSome? fun r => r s

/-- At most `fuel` reactions, one after another, until none remains. -/
def settleN (fuel : Nat) (s : State) : State :=
  match fuel with
  | 0 => s
  | k + 1 =>
    match react s with
    | some t => settleN k t
    | none => s

/-- The part settles at the end of a command: every block takes what its own rules make of the change (log 6). -/
def State.settle (s : State) : State := settleN 64 s

/-- The end of a command that the blocks react to: they settle, then the transmitter chooses (log 6, log 8). -/
def State.finish (s : State) : State := s.settle.transmit

end Sys2Proof.Machine
end

