-- ==== Sys2Proof/Machine/Reset.lean ====
section
/-! DEFINITION. The two resets (R182, R189) and what each block takes from them (R22, R35, R38, R59, R81, R103, R120, R124,
R141, R157, R165, R169, R184, R190). -/
namespace Sys2Proof.Machine

/-- Every input seeded from its first sample (R165). -/
def seedInputs (level : Switch → Bool) : Inputs :=
  allSwitches.foldl (fun i x => i.put x (InputState.seeded (level x))) Inputs.quiet

/-- The filtered level of an input. -/
def Inputs.on (i : Inputs) (x : Switch) : Bool := (i.get x).filtered

/-- A pile or a ream stands at the infeed (R124). -/
def Inputs.infeedOccupied (i : Inputs) : Bool := i.on .pilePresent || i.on .reamHeld

/-- Every block at its reset value, on seeded inputs (both kinds of reset); reference, position and store as given. The
two-hand monitor, SPENT, is IDLE at once when both hands are seeded inactive (R120). -/
def State.blocksReset (s : State) (i : Inputs) (c : Channels) (valid : Bool) (pos : Int) (st : Store) : State where
  link := Link.reset s.link.line
  jobs := []
  admission := 0
  planner := none
  bankA := Bank.cleared
  bankB := Bank.cleared
  runner := Runner.reset
  gauge := Gauge.reset valid pos st.consts.gminStd
  cycle := (Cycle.reset (i.on .knifeTop && i.on .clampTop)).refresh (i.on .handL) (i.on .handR)
  infeed := Infeed.reset i.infeedOccupied
  jogger := Jogger.reset (i.on .liftPresent) (i.on .pusherHome) (i.on .curtain)
  arbiter := Arbiter.reset (i.on .hydReady)
  inputs := i
  channels := c
  faults := { FaultSet.none with eStop := i.on .eStop }
  store := st
  free := s.free
  pending := s.pending
  tape := s.tape

/-- The WAIT notices CLEARANCE of the stations that enter CLEARANCE at a reset (R59, R124, R141), in the order of log 28. -/
def State.resetNotices (s : State) : State :=
  let s := s.await (.clearance .runner)
  let s := if s.inputs.infeedOccupied then s.await (.clearance .infeed) else s
  if s.on .liftPresent then s.await (.clearance .jogger) else s

/-- A write target's new value in the store (R181). -/
def Store.commit (st : Store) (w : WriteTarget) : Store :=
  match w with
  | .const n v => { st with consts := st.consts.put n v }
  | .cls n c => { st with classes := st.classes.set n c }

/-- The store at a power-on (R177, R181, R182): a write cut short leaves the old record whole or the new one whole, a free
value numbered by `State.free` (log 22). -/
def State.storeAtPower (s : State) : Store :=
  let st :=
    match s.store.write with
    | none => s.store
    | some w => if Config.supplyLossKeepsNew s.free then s.store.commit w.target else s.store
  { st with write := none, cause := .power }

/-- The power-on reset, before the part settles (R81, R182): reference INVALID, position 0. -/
def State.powerReset (s : State) (i : Inputs) (c : Channels) : State :=
  let used := if s.store.write.isSome then 1 else 0
  ((s.blocksReset i c false 0 s.storeAtPower).setFree (s.free + used)).resetNotices

/-- The restart reset, before the part settles (R81, R182, R189): the reference and the position are kept, and the inputs are
seeded from the first sample after it, the coming one (R165, log 23). -/
def State.restartReset (s : State) : State :=
  (s.blocksReset (seedInputs s.comingLevel) s.comingReadings s.gauge.valid s.gauge.position
    { s.store with write := none, cause := .restart }).resetNotices

end Sys2Proof.Machine
end

