-- ==== Sys2Proof/Machine/LinkCmds.lean ====
section
/-! DEFINITION. The resets, the receiver and the transmitter as commands: POWER_ON_RESET, FRAME_RECEIVED, GAP_TIMEOUT,
LEN_ABOVE_240, FRAME_SENT. -/
namespace Sys2Proof.Machine

/-- What a command answers. -/
abbrev Result := Host.Outcome State Fault Refusal

/-- POWER_ON_RESET (R182): every block takes its power-on values, on the inputs and the signals of the first sample. -/
def execPowerOnReset (contacts : Contacts) (signals : Signals) (s : State) : Result :=
  .next (s.powerReset (seedInputs (rawLevel contacts)) (readSignals signals)).finish

/-- The receiver returns to HUNT (R184). -/
def State.hunt (s : State) : State := s.setLink { s.link with rx := Receiver.hunting }

/-- A frame is good: not marked bad, at most 240 body bytes, and its CRC matches (R183, R185). -/
def goodFrame (bad : Bool) (kind tag : Byte) (body : List Byte) (crc : Word16) : Bool :=
  !bad && body.length ≤ 240 && crc = frameCrc kind tag body

/-- A good frame is offered to the request queue (R185): it joins, or is refused QUEUE_FULL, or is discarded. -/
def State.offerFrame (s : State) (f : Frame) : State :=
  if s.link.requests.length < maxRequests then s.setLink { s.link with requests := s.link.requests ++ [f] }
  else if s.link.replies.length < serveReplies && s.link.restart.isNone then s.answer f .queueFull 0 []
  else s

/-- FRAME_RECEIVED (R185): the frame has ended at the end of CHECK. -/
def execFrameReceived (bad : Bool) (kind tag : Byte) (body : List Byte) (crc : Word16) (s : State) : Result :=
  let t := s.hunt
  .next (if goodFrame bad kind tag body crc then t.offerFrame ⟨kind, tag, body⟩ else t).transmit

/-- GAP_TIMEOUT (R184): the frame in progress is discarded. In HUNT gaps have no effect. -/
def execGapTimeout (s : State) : Result :=
  .next (if s.link.rx.state = .hunt then s else s.hunt).transmit

/-- LEN_ABOVE_240 (R184): in HEADER the frame is discarded, with no reply and no CHECK. -/
def execLenAbove240 (s : State) : Result :=
  .next (if s.link.rx.state = .header then s.hunt else s).transmit

/-- The reply whose last byte leaves is the RESTART reply (R189, log 33). -/
def Link.restartSent (l : Link) : Bool :=
  match l.tx, l.replies with
  | .reply, r :: _ => l.restart.isSome && r.kind = 0x10#8 && r.status = .ok
  | _, _ => false

/-- The frame being sent has left the line (R192): a reply leaves the list. -/
def Link.sent (l : Link) : Link :=
  match l.tx with
  | .idle => l
  | .reply => { l with tx := .idle, txTimer := Timer.stopped, replies := l.replies.tail }
  | .notice _ => { l with tx := .idle, txTimer := Timer.stopped }

/-- FRAME_SENT (R192): the next frame is chosen; after the RESTART reply the restart reset takes place instead (R189). -/
def execFrameSent (s : State) : Result :=
  if s.link.restartSent then .next s.restartReset.finish else .next (s.setLink s.link.sent).transmit

end Sys2Proof.Machine
end

