-- ==== Sys2Proof/Machine/CycleCmds.lean ====
section
/-! DEFINITION. The Cut Cycle unit's events as commands (R107 to R114). -/
namespace Sys2Proof.Machine

/-- The four conditions for a downward stroke (R109). -/
def State.mayStroke (s : State) : Bool :=
  s.cycle.monitor = .engaged && !s.on .curtain && s.on .clampPressure && !s.stop

/-- The dwell timer has expired (R109): the knife starts down, or the cycle aborts for a loss of pressure; for one of the other
three conditions the knife is not started. -/
def State.endDwell (s : State) : State :=
  if s.cycle.state = .dwell then
    if !s.on .clampPressure then s.abortCycle false
    else
      let s := s.setCycle { s.cycle with dwellTimer := s.cycle.dwellTimer.expire }
      if s.mayStroke then s.setCycle { s.cycle with state := .strokeDown } else s
  else s

/-- DWELL_EXPIRY (R109). -/
def execDwellExpiry (s : State) : Result := .next s.endDwell.transmit

/-- The clamp has reached pressure (R107): the height is recorded and the dwell starts; a dwell of 0 expires at once (R109). -/
def State.reachPressure (s : State) : State :=
  if s.cycle.state = .clamping then
    let h := min s.channels.clampHeight maxHeight
    let s :=
      s.setCycle
        { s.cycle with
          state := .dwell
          height := some h
          lastHeight := h
          dwellTimer := Timer.start s.cycle.dwell }
    if s.cycle.dwell = 0 then s.endDwell else s
  else s

/-- CLAMP_PRESSURE_ACTIVE (R107, R167). -/
def execClampPressureActive (clampHeight : Nat) (s : State) : Result :=
  let s := (s.sense .clampPressure true).setChannels { s.channels with clampHeight := clampHeight }
  .next s.reachPressure.transmit

/-- CLAMP_PRESSURE_INACTIVE (R113): after pressure in this cycle, that is in DWELL or STROKE_DOWN, the cycle aborts. -/
def execClampPressureInactive (s : State) : Result :=
  let s := s.sense .clampPressure false
  .next (if s.cycle.height.isSome then s.abortCycle false else s).transmit

/-- CLAMP_BOTTOM (R108): in CLAMPING, at 10 tenths or less, the clamp goes up and NO_STACK is latched. -/
def execClampBottom (clampHeight : Nat) (s : State) : Result :=
  let s := s.setChannels { s.channels with clampHeight := clampHeight }
  .next
    (if s.cycle.state = .clamping && clampHeight ≤ clampBottomTenths then
      (s.setCycle { s.cycle with state := .unclamp, faulted := true }).latch .noStack
    else s).transmit

/-- The knife height is at or below the cycle clamped height (R110). -/
def Cycle.entered (c : Cycle) (knifeHeight : Nat) : Bool :=
  match c.height with
  | some h => knifeHeight ≤ h
  | none => false

/-- ENTRY_POINT (R110): in STROKE_DOWN entry passed becomes yes. -/
def execEntryPoint (knifeHeight : Nat) (s : State) : Result :=
  let s := s.setChannels { s.channels with knifeHeight := knifeHeight }
  .next
    (if s.cycle.state = .strokeDown && s.cycle.entered knifeHeight then
      s.setCycle { s.cycle with entryPassed := true }
    else s).transmit

/-- KNIFE_BOTTOM_ACTIVE (R111): in STROKE_DOWN the stroke is counted and handed to the Runner (R68). -/
def execKnifeBottomActive (s : State) : Result :=
  let s := s.sense .knifeBottom true
  .next
    (if s.cycle.state = .strokeDown then
      (s.setCycle { s.cycle with state := .strokeUp, counted := true }).completeCut (s.cycle.height.getD 0)
    else s).transmit

/-- KNIFE_TOP_ACTIVE (R112, R114): STROKE_UP goes to UNCLAMP; in ABORT_RETURN the clamp now rises (R104, Outputs.lean). -/
def execKnifeTopActive (s : State) : Result :=
  let s := s.sense .knifeTop true
  .next (if s.cycle.state = .strokeUp then s.setCycle { s.cycle with state := .unclamp } else s).transmit

/-- The clamp at the top ends the cycle in UNCLAMP, and in ABORT_RETURN with KNIFE_TOP active (R112, R114). That a state entered
with CLAMP_TOP already active waits for CLAMP_TOP_ACTIVE too is the model's choice (log 12). -/
def State.clampHome (s : State) : State :=
  if s.cycle.state = .unclamp || (s.cycle.state = .abortReturn && s.on .knifeTop) then s.endCycle else s

/-- CLAMP_TOP_ACTIVE (R112, R114). -/
def execClampTopActive (s : State) : Result := .next (s.sense .clampTop true).clampHome.finish

end Sys2Proof.Machine
end

