-- ==== Sys2Proof/Machine/GaugeCmds.lean ====
section
/-! DEFINITION. The Gauge Axis's events as commands (R81, R84, R85, R91 to R93, R97, R99). -/
namespace Sys2Proof.Machine

/-- HOME_SWITCH in SEARCH (R84). -/
def Gauge.homeReached (g : Gauge) : Gauge :=
  match g.phase, g.refRun with
  | some .search, some r => g.home r
  | _, _ => g

/-- HOME_SWITCH_ACTIVE (R84): in SEARCH, travelling or PAUSED, the position is known. -/
def execHomeSwitchActive (s : State) : Result :=
  let s := s.sense .homeSwitch true
  .next (s.setGauge s.gauge.homeReached).transmit

/-- The encoder is counted (R81), which restarts the stall watch (R97) and may end a commanded travel (R91). -/
def Gauge.count (g : Gauge) (dir : EncoderDir) : Gauge :=
  Gauge.arrive { g with position := stepPosition g.position dir, stallTimer := g.stallTimer.rewind }

/-- The gauge has passed below Gmin_std with the plate off (R99). Gmin_std is the axis's, as read at the last start of a move or
reference run (R100); a change of it at such a start, with the gauge standing, is no passing (log 19). -/
def State.plateCrossed (s : State) (before : Int) : Bool :=
  s.gauge.valid && !s.on .plateFitted && (s.gauge.gminStd : Int) ≤ before
    && s.gauge.position < (s.gauge.gminStd : Int)

/-- ENCODER_STEP (R81, R91, R99). -/
def execEncoderStep (dir : EncoderDir) (s : State) : Result :=
  let before := s.gauge.position
  let s := s.setGauge (s.gauge.count dir)
  .next (if s.plateCrossed before then s.latch .plateRemoved else s).transmit

/-- The gauge stands within the window of its target (R92). -/
def inWindow (m : Move) (p : Int) : Bool := (p - m.target).natAbs ≤ m.wPos

/-- A move found in position (R92): reported to the Runner, or the end of a reference run, which starts the pending move
(R84). -/
def State.inPosition (s : State) (m : Move) : State :=
  match s.gauge.refRun with
  | none =>
    let result : MoveResult := ⟨m.limited, m.target, s.gauge.position⟩
    let s := s.setGauge { s.gauge with state := .idle, move := none, last := some result, settleTimer := Timer.stopped }
    s.moveReported result
  | some r =>
    let s :=
      s.setGauge { s.gauge with state := .idle, move := none, refRun := none, settleTimer := Timer.stopped }
    let s := s.refNotice r .done
    match s.gauge.pendingMove with
    | some req => s.startMove req
    | none => s

/-- A move found outside the window (R93): a corrective move, or after two of them GAUGE_POSITION. -/
def State.correct (s : State) (m : Move) : State :=
  if s.gauge.corrective < maxCorrective then
    let g := { s.gauge with corrective := s.gauge.corrective + 1, settleTimer := Timer.stopped }
    s.setGauge (g.travel m (s.on .curtain))
  else s.axisFault .gaugePosition s.gauge.valid

/-- The in-position check (R92, R93). -/
def State.checkPosition (s : State) : State :=
  match s.gauge.state, s.gauge.move with
  | .settling, some m => if inWindow m s.gauge.position then s.inPosition m else s.correct m
  | _, _ => s

/-- SETTLE_EXPIRY (R92, R93). -/
def execSettleExpiry (s : State) : Result := .next s.checkPosition.finish

/-- SEARCH_LIMIT_EXPIRY (R85): REFERENCE_FAIL. -/
def execSearchLimitExpiry (s : State) : Result :=
  .next
    (if s.gauge.state = .referencing && s.gauge.phase = some .search then s.axisFault .referenceFail false else s).transmit

/-- ENCODER_STALL (R97): latched while the stall watch runs. -/
def execEncoderStall (s : State) : Result :=
  .next (if s.gauge.stallTimer.running then s.axisFault .encoderStall false else s).transmit

end Sys2Proof.Machine
end

