-- ==== Sys2Proof/Machine/HydCmds.lean ====
section
/-! DEFINITION. The hydraulic unit's ready input as commands (R158, R162). -/
namespace Sys2Proof.Machine

/-- HYD_READY_ACTIVE (R158): UNAVAILABLE becomes FREE; a pending request is granted as the part settles (R160). -/
def execHydReadyActive (s : State) : Result :=
  let s := s.sense .hydReady true
  .next (if s.arbiter.unit = .unavailable then s.setArbiter { s.arbiter with unit := .free } else s).finish

/-- HYD_READY_INACTIVE (R158, R162): HYD_PRESSURE under a motion in progress, UNAVAILABLE otherwise. -/
def execHydReadyInactive (s : State) : Result :=
  let s := s.sense .hydReady false
  .next
    (match s.arbiter.unit with
     | .held => s.latch .hydPressure
     | .free => s.setArbiter { s.arbiter with unit := .unavailable }
     | .unavailable => s).transmit

end Sys2Proof.Machine
end

