-- ==== Sys2Proof/Machine/InfeedCmds.lean ====
section
/-! DEFINITION. The Infeed's events as commands (R125 to R139). -/
namespace Sys2Proof.Machine

/-- The pile-top channel's latest reading (R167). -/
def State.readPile (s : State) (pileTop : Nat) : State := s.setChannels { s.channels with pileTop := pileTop }

/-- A pallet arrives (R127): measured in CALLING with the rejected-pile mark no. -/
def State.pileArrives (s : State) (reading : Nat) : State :=
  if s.infeed.turner = .calling && !s.infeed.rejected then
    match s.infeed.called.bind s.entry with
    | some e =>
      if pileInRange reading then s.takePile e reading
      else (s.setInfeed { s.infeed with rejected := true }).latch .pileBad
    | none => s
  else s

/-- PILE_PRESENT_ACTIVE (R126, R127, R137). -/
def execPilePresentActive (pileTop : Nat) (s : State) : Result :=
  .next (((s.sense .pilePresent true).readPile pileTop).pileArrives pileTop).finish

/-- A pallet leaves (R136, R137). In EXHAUSTED the pile-lost mark becomes no with the pile (log 41). -/
def State.pileLeaves (s : State) : State :=
  match s.infeed.turner with
  | .turning => (s.setInfeed { s.infeed with pileLost := true }).latch .pileBad
  | .ready => (s.setInfeed { s.infeed with pileLost := true }).latch .pileBad
  | .exhausted => s.setInfeed { s.infeed with turner := .empty, pile := none, pileLost := false }
  | .empty => s
  | .calling => s
  | .clearance => s

/-- PILE_PRESENT_INACTIVE (R136, R137, R139). -/
def execPilePresentInactive (s : State) : Result := .next (s.sense .pilePresent false).pileLeaves.finish

/-- REAM_HELD_INACTIVE (R139): taken as the part settles. -/
def execReamHeldInactive (s : State) : Result := .next (s.sense .reamHeld false).finish

/-- The requester of an Infeed unit (R125). -/
def unitRequester (u : InfeedUnit) : Requester :=
  match u with
  | .turner => .turn
  | .lift => .lift

/-- The motion-done input of an Infeed unit (R125). -/
def unitDone (u : InfeedUnit) : Switch :=
  match u with
  | .turner => .turnerDone
  | .lift => .liftDone

/-- A Turner motion is done (R125, R130, R139): the timer stops and the grant is released. -/
def State.turnerMotionDone (s : State) : State :=
  let i := { s.infeed with turnerTimer := Timer.stopped, turnerOrphan := none }
  (s.setInfeed (if s.infeed.turnerOrphan.isSome then i else i.turnerDone)).release

/-- A PICK ends without a ream (R134): failed picks count, the division is made again over the same lifts to go, and the second
failure in a row latches MOTION_TIMEOUT. The Lift unit returns. -/
def State.missPick (s : State) (p : PileRec) : State :=
  let q := ({ p with remaining := s.channels.pileTop } : PileRec).divide p.toGo
  let failed := s.infeed.failedPicks + 1
  let s :=
    s.setInfeed
      { s.infeed with
        lift := .returning
        returnJob := none
        pile := some q
        failedPicks := if failed = 2 then 0 else failed }
  if failed = 2 then s.latch .motionTimeout else s

/-- The Lift unit is back (R133, R135, R139). -/
def Infeed.liftBack (i : Infeed) : Infeed :=
  { i with lift := .idle, returnOwed := false, returnJob := none, clearReturn := false }

/-- A Lift unit motion is done (R133 to R135, R139). -/
def State.liftDone (s : State) : State :=
  match s.infeed.lift with
  | .picking =>
    match s.infeed.pile with
    | some p => if s.on .reamHeld then s.countPick p s.channels.pileTop else s.missPick p
    | none => s
  | .depositing => s.handDeposit
  | .returning => s.setInfeed s.infeed.liftBack
  | .clearance => s.setInfeed s.infeed.liftBack
  | .idle => s
  | .holding => s

/-- A Lift unit motion is done (R125): the timer stops, the grant is released, and the motion's own effect follows. -/
def State.liftMotionDone (s : State) : State :=
  let orphan := s.infeed.liftOrphan.isSome
  let s := (s.setInfeed { s.infeed with liftTimer := Timer.stopped, pickHeight := none, liftOrphan := none }).release
  if orphan then s else s.liftDone

/-- MOTION_DONE (R125, R130, R134, R135, R139): a done of a unit that does not hold the grant completes nothing. -/
def execMotionDone (unit : InfeedUnit) (reamHeld : Bool) (pileTop : Nat) (s : State) : Result :=
  let s := ((s.sense (unitDone unit) true).sense .reamHeld reamHeld).readPile pileTop
  .next
    (if s.arbiter.holder = some (unitRequester unit) then
      match unit with
      | .turner => s.turnerMotionDone
      | .lift => s.liftMotionDone
    else s).finish

/-- The motion timer of a unit (R125). -/
def Infeed.timerOf (i : Infeed) (u : InfeedUnit) : Timer :=
  match u with
  | .turner => i.turnerTimer
  | .lift => i.liftTimer

/-- MOTION_TIMER_EXPIRY (R125): MOTION_TIMEOUT, and the motion is interrupted, still owed. -/
def execMotionTimerExpiry (unit : InfeedUnit) (s : State) : Result :=
  .next (if (s.infeed.timerOf unit).running then s.latch .motionTimeout else s).finish

end Sys2Proof.Machine
end

