-- ==== Sys2Proof/Machine/JoggerCmds.lean ====
section
/-! DEFINITION. The Jogger's events as commands (R141, R145 to R147, R152, R153, R155). -/
namespace Sys2Proof.Machine

/-- The pusher is home (R141, R152, R153, R155): RETURN and a confirmed CLEARANCE end in EMPTY, every other retreat in HOLD. -/
def Jogger.home (j : Jogger) : Jogger :=
  if j.phase = .ret then j.emptied
  else if j.pusher = .back then
    if j.state = .clearance then j.emptied else j.push .hold false
  else j

/-- PUSHER_HOME_ACTIVE (R152). -/
def execPusherHomeActive (s : State) : Result :=
  let s := s.sense .pusherHome true
  .next (s.setJogger s.jogger.home).finish

/-- The end of a scan (R145, R146). -/
def State.endScan (s : State) (r : ScanRun) (pulses : EdgeCounts) : State :=
  let counts := saturatedCounts r.res pulses
  let j := { s.jogger with lastScan := some counts }
  if scanPasses r.res counts s.store.consts.edges then
    let j := { j with pass := j.pass + 1 }
    if j.pass = s.store.consts.na then s.setJogger (j.endJog .aligned)
    else s.setJogger { j with scan := some s.freshScan }
  else s.setJogger { j with pass := 0, scan := some s.freshScan }

/-- EDGE_SCAN_END (R145, R146): with the pulses each channel gave over the 25 ms. -/
def execEdgeScanEnd (pulses : EdgeCounts) (s : State) : Result :=
  .next
    (match s.jogger.state, s.jogger.scan with
     | .jogging, some r => s.endScan r pulses
     | _, _ => s).finish

/-- The jog timer has expired (R147): a re-jog, or FAILED with JOG_FAILED and a WAIT notice JOG_OK. -/
def State.jogTimeout (s : State) : State :=
  if s.jogger.rejogUsed then
    let s := s.setJogger { s.jogger.endJog .failed with pass := 0 }
    (s.latch .jogFailed).await .jogOk
  else s.startJog (min (s.jogger.intensity + 1) 4) true

/-- JOG_TIMER_EXPIRY (R147). -/
def execJogTimerExpiry (s : State) : Result :=
  .next (if s.jogger.state = .jogging && s.jogger.jogTimer.running then s.jogTimeout else s).transmit

/-- The transfer has timed out (R153). With PUSHER_HOME still active the pusher stays BACK until PUSHER_HOME becomes active again
(log 14). -/
def State.transferTimeout (s : State) : State :=
  let j := { s.jogger with phase := .timedOut, transferTimer := s.jogger.transferTimer.expire }
  (s.setJogger (j.push .back (s.on .curtain))).latch .transferTimeout

/-- TRANSFER_TIMER_EXPIRY (R153): pushing time counts only while the pusher goes forward (R152). -/
def execTransferTimerExpiry (s : State) : Result :=
  .next (if s.jogger.phase = .push && s.pusherOutput = .forward then s.transferTimeout else s).transmit

end Sys2Proof.Machine
end

