-- ==== Sys2Proof/Machine/Report.lean ====
section
/-! DEFINITION. The data of the replies: the line status record of LINE_INFO, JOB_INFO, CLASS_GET and CONST_GET (R17, R33,
R80, R101, R123, R140, R156, R163, R168, R176, R187, section 12.6). -/
namespace Sys2Proof.Machine

/-! ### Codes: a state by its position in the list of its rule (section 12.6) -/

/-- Bank states in the order of R35. -/
def BankState.code (x : BankState) : Nat :=
  match x with
  | .empty => 0 | .planning => 1 | .ready => 2 | .inUse => 3

/-- Runner states in the order of R59. -/
def RunnerState.code (x : RunnerState) : Nat :=
  match x with
  | .idle => 0 | .loading => 1 | .running => 2 | .held => 3 | .liftEnd => 4 | .clearance => 5

/-- Step phases in the order of R59. -/
def StepPhase.code (x : StepPhase) : Nat :=
  match x with
  | .prepare => 0 | .positioning => 1 | .awaitStart => 2 | .cycle => 3 | .takeaway => 4 | .parking => 5
  | .awaitConfirm => 6

/-- Axis states in the order of R81. -/
def AxisState.code (x : AxisState) : Nat :=
  match x with
  | .unreferenced => 0 | .referencing => 1 | .idle => 2 | .moving => 3 | .settling => 4 | .paused => 5 | .faulted => 6

/-- Move phases in the order of R81. -/
def MovePhase.code (x : MovePhase) : Nat :=
  match x with
  | .search => 0 | .overshoot => 1 | .approach => 2

/-- Cycle states in the order of R103. -/
def CycleState.code (x : CycleState) : Nat :=
  match x with
  | .ready => 0 | .waitGrant => 1 | .clamping => 2 | .dwell => 3 | .strokeDown => 4 | .strokeUp => 5 | .unclamp => 6
  | .abortReturn => 7 | .stopped => 8 | .returnNeeded => 9

/-- Purposes in the order of R103. -/
def Purpose.code (x : Purpose) : Nat :=
  match x with
  | .cut => 0 | .ret => 1

/-- Monitor states in the order of R120. -/
def Monitor.code (x : Monitor) : Nat :=
  match x with
  | .idle => 0 | .one => 1 | .engaged => 2 | .spent => 3

/-- Turner states in the order of R124. -/
def TurnerState.code (x : TurnerState) : Nat :=
  match x with
  | .empty => 0 | .calling => 1 | .turning => 2 | .ready => 3 | .exhausted => 4 | .clearance => 5

/-- Lift unit states in the order of R124. -/
def LiftState.code (x : LiftState) : Nat :=
  match x with
  | .idle => 0 | .picking => 1 | .holding => 2 | .depositing => 3 | .returning => 4 | .clearance => 5

/-- Infeed motions (section 12.6). -/
def InfeedMotion.code (x : InfeedMotion) : Nat :=
  match x with
  | .clampPile => 0 | .invert => 1 | .rotateCw => 2 | .rotateCcw => 3 | .unclamp => 4 | .pick => 5 | .deposit => 6
  | .ret => 7

/-- Jogger states in the order of R141. -/
def JoggerState.code (x : JoggerState) : Nat :=
  match x with
  | .empty => 0 | .receiving => 1 | .jogging => 2 | .aligned => 3 | .handing => 4 | .failed => 5 | .clearance => 6

/-- Transfer phases in the order of R141. -/
def TransferPhase.code (x : TransferPhase) : Nat :=
  match x with
  | .none => 0 | .push => 1 | .timedOut => 2 | .ret => 3

/-- Unit states in the order of R158. -/
def UnitState.code (x : UnitState) : Nat :=
  match x with
  | .unavailable => 0 | .free => 1 | .held => 2

/-- Requesters in the order of R157. -/
def Requester.code (x : Requester) : Nat :=
  match x with
  | .cut => 0 | .lift => 1 | .turn => 2

/-- Reset causes (section 12.6). -/
def ResetCause.code (x : ResetCause) : Nat :=
  match x with
  | .power => 0 | .restart => 1

/-! ### Pieces -/

/-- A value of `size` bytes, every byte FFh when it is absent (section 12.6; the further bytes of a wide field: log 20). -/
def optBytes (size : Nat) (v : Option Nat) : List Byte :=
  match v with
  | some n => leBytes size n
  | none => List.replicate size absentByte

/-- Bank state and the number of the job it holds, 0 when it is EMPTY (R36). -/
def Bank.bytes (bk : Bank) : List Byte := byteOf bk.state.code :: leBytes 2 (bk.job.getD 0)

/-- A lift record, zeros when it is absent (R140, R156). -/
def liftRecBytes (l : Option LiftRec) : List Byte :=
  match l with
  | some l => leBytes 2 l.job ++ leBytes 1 l.lift ++ leBytes 2 l.height
  | none => List.replicate 5 0

/-- The Working Stack: presence and its record (R17). -/
def workBytes (w : Option StackRec) : List Byte :=
  flagByte w.isSome
    :: leBytes 2 ((w.map StackRec.job).getD 0)
    ++ optBytes 1 (w.map StackRec.lift)
    ++ optBytes 1 (w.map StackRec.strip)
    ++ optBytes 4 (w.map StackRec.along)
    ++ optBytes 4 (w.map StackRec.across)
    ++ optBytes 2 (w.map StackRec.height)
    ++ optBytes 1 (w.map fun w => w.orient.rear.code)
    ++ optBytes 1 (w.map fun w => w.orient.face.code)
    ++ optBytes 1 (w.map fun w => w.partialCut.toNat)

/-- The Aside List: entries and the top entry's strip number, 0 when it is empty (R17). -/
def asideBytes (a : List AsideRec) : List Byte :=
  [byteOf a.length, byteOf ((a.getLast?.map AsideRec.strip).getD 0)]

/-- The last completed move, zeros when it is absent (R101). -/
def moveBytes (m : Option MoveResult) : List Byte :=
  match m with
  | some m => flagByte m.limited :: leInt m.target ++ leInt m.actual
  | none => List.replicate 9 0

/-- The target of the move in progress: 0 when there is none (R101), Gmax in the reference park (log 18). -/
def Gauge.targetNow (g : Gauge) : Int := (g.move.map Move.target).getD 0

/-- The pile record, zeros when it is absent (R140). -/
def pileBytes (p : Option PileRec) : List Byte :=
  match p with
  | some p =>
    leBytes 2 p.job ++ [byteOf p.orient.rear.code, byteOf p.orient.face.code] ++ leBytes 2 p.height ++ leBytes 2 p.limit
      ++ [byteOf p.count, byteOf p.picked] ++ leBytes 2 p.remaining ++ [flagByte p.exhausted]
  | none => List.replicate 13 0

/-- Five counts of 2 bytes (R156). -/
def scanBytes (c : Option EdgeCounts) : List Byte :=
  match c with
  | some c => leBytes 2 c.rf1 ++ leBytes 2 c.rf2 ++ leBytes 2 c.rf3 ++ leBytes 2 c.sf1 ++ leBytes 2 c.sf2
  | none => List.replicate 10 0

/-- A pending request and its waiting time in tenths of a second, 0 when it is absent (R163). The milliseconds beyond a whole
tenth are discarded (log 40). A time beyond two bytes is a free value (log 21). -/
def waitingBytes (w : Option Nat) : List Byte :=
  match w with
  | some ms =>
    flagByte true
      :: (if ms / 100 ≤ 65535 then leBytes 2 (ms / 100) else leBytes 2 (Config.overlongWait (ms / 100)).toNat)
  | none => List.replicate 3 0

/-- One bit for each switch input in the order of R164, from the lowest bit (section 12.6); bits 23 to 31 are 0 (log 49). -/
def switchBits (level : Switch → Bool) : Nat :=
  (allSwitches.zipIdx.map fun x => (level x.1).toNat * 2 ^ x.2).sum

/-! ### The line status record (section 12.6, 161 bytes) -/

/-- Offsets 0 to 15: reset cause, overflow, faults, stop and halts, table, banks (R176, R33, R36). -/
def State.infoTable (s : State) : List Byte :=
  [byteOf s.store.cause.code, flagByte s.link.overflow] ++ leBytes 2 s.faults.bits
    ++ [flagByte s.stop, flagByte s.guillotineHalt, flagByte s.faults.jogger, flagByte s.infeedHalt]
    ++ [byteOf s.jobs.length, byteOf s.admission] ++ s.bankA.bytes ++ s.bankB.bytes

/-- Offsets 16 to 53: the Runner, the tally, the Working Stack and the Aside List (R80, R17). -/
def State.infoRunner (s : State) : List Byte :=
  [byteOf s.runner.state.code] ++ optBytes 1 (s.runner.phase.map StepPhase.code) ++ [byteOf s.runner.stepIndex]
    ++ leBytes 2 ((s.runner.lift.map CurrentLift.job).getD 0) ++ [byteOf ((s.runner.lift.map CurrentLift.lift).getD 0)]
    ++ [flagByte s.runner.hold, flagByte s.runner.firstOff] ++ s.runner.tally.bytes ++ workBytes s.runner.working
    ++ asideBytes s.runner.aside

/-- Offsets 54 to 74: the Gauge Axis (R101). -/
def State.infoGauge (s : State) : List Byte :=
  [byteOf s.gauge.state.code] ++ optBytes 1 (s.gauge.phase.map MovePhase.code)
    ++ [byteOf (if s.gauge.valid then 0 else 1), byteOf s.gauge.corrective] ++ leInt s.gauge.position
    ++ leInt s.gauge.targetNow ++ moveBytes s.gauge.last

/-- Offsets 75 to 81: the Cut Cycle unit (R123). -/
def State.infoCycle (s : State) : List Byte :=
  [byteOf s.cycle.state.code] ++ optBytes 1 (s.cycle.purpose.map Purpose.code)
    ++ [flagByte s.cycle.entryPassed, flagByte s.cycle.counted] ++ leBytes 2 s.cycle.lastHeight
    ++ [byteOf s.cycle.monitor.code]

/-- Offsets 82 to 107: the Infeed (R140). -/
def State.infoInfeed (s : State) : List Byte :=
  [byteOf s.infeed.turner.code] ++ leBytes 2 (s.infeed.called.getD 0)
    ++ [flagByte s.infeed.rejected, flagByte s.infeed.pileLost]
    ++ optBytes 1 (s.infeed.turnerMotion.map InfeedMotion.code) ++ optBytes 1 (s.infeed.liftMotion.map InfeedMotion.code)
    ++ pileBytes s.infeed.pile ++ [byteOf s.infeed.lift.code] ++ liftRecBytes s.infeed.held

/-- Offsets 108 to 130: the Jogger (R156). A hold is 1 when it is released (log 38). The transfer timer's milliseconds beyond a
whole tenth are discarded (log 40). -/
def State.infoJogger (s : State) : List Byte :=
  [byteOf s.jogger.state.code] ++ liftRecBytes s.jogger.lift
    ++ [byteOf s.jogger.intensity, flagByte s.jogger.rejogUsed, byteOf s.jogger.pass] ++ scanBytes s.jogger.lastScan
    ++ [flagByte s.joggerHoldReleased, flagByte s.tableHoldReleased, byteOf s.jogger.phase.code,
        byteOf (s.jogger.transferTimer.elapsed / 100)]

/-- Offsets 131 to 160: the Arbiter, the Conditioner and the store (R163, R168). -/
def State.infoField (s : State) : List Byte :=
  [byteOf s.arbiter.unit.code] ++ optBytes 1 (s.arbiter.holder.map Requester.code) ++ waitingBytes s.arbiter.cut
    ++ waitingBytes s.arbiter.lift ++ waitingBytes s.arbiter.turn
    ++ leBytes 4 (switchBits fun x => (s.inputs.get x).raw) ++ leBytes 4 (switchBits fun x => (s.inputs.get x).filtered)
    ++ leBytes 2 s.channels.pileTop ++ leBytes 2 s.channels.clampHeight ++ leBytes 2 s.channels.knifeHeight
    ++ leBytes 4 s.channels.widthProbe ++ [flagByte s.store.write.isSome]

/-- The line status record, 161 bytes (section 12.6). -/
def State.lineStatus (s : State) : List Byte :=
  s.infoTable ++ s.infoRunner ++ s.infoGauge ++ s.infoCycle ++ s.infoInfeed ++ s.infoJogger ++ s.infoField

/-! ### JOB_INFO, CLASS_GET, CONST_GET (R33, R178, R187) -/

/-- The bank a job holds (R187). -/
def bankByte (bk : Option BankId) : Byte :=
  match bk with
  | some .a => 0
  | some .b => 1
  | none => absentByte

/-- The data of a JOB_INFO reply, 8 bytes (R33, R187); `place` counts from 1. -/
def JobEntry.info (e : JobEntry) (place : Nat) : List Byte :=
  leBytes 2 e.record.number
    ++ [byteOf e.state.code, byteOf e.record.priority, byteOf place, bankByte e.bank, byteOf e.liftsCompleted,
        byteOf (e.finalCount.getD 0)]

/-- The position of a job in the table's list, from 1 (R33). -/
def State.place (s : State) (n : Nat) : Nat := s.jobs.findIdx (fun e => e.record.number = n) + 1

/-- The data of a CONST_GET reply, 5 bytes (R187). -/
def constBytes (n : Nat) (v : Int) : List Byte := byteOf n :: leInt v

end Sys2Proof.Machine
end

