-- ==== Sys2Proof/Machine/RequestCmds.lean ====
section
/-! DEFINITION. The requests of the cell computer as commands, served from the head of the request queue (R186, R187), and
STORE_WRITE_COMPLETE (R181). -/
namespace Sys2Proof.Machine

/-- REQUEST_UNKNOWN (R186): a KIND that names no request in R187 is answered UNKNOWN. -/
def knownKind (k : Byte) : Bool := 1 ≤ k.toNat && k.toNat ≤ 16

/-- REQUEST_UNKNOWN: the head request is answered UNKNOWN and not carried out (R186). -/
def execRequestUnknown (s : State) : Result :=
  match s.link.requests with
  | f :: _ =>
    .next (if s.link.serving && !knownKind f.kind then s.dequeue.answer f .unknown 0 [] else s).transmit
  | [] => .next s.transmit

/-! ### Jobs (chapter 2) -/

/-- The new entry of an accepted job (R21). -/
def newEntry (r : JobRecord) : JobEntry := ⟨r, .queued, none, 0, none⟩

/-- SUBMIT carried out (R20, R21). -/
def submitJob (f : Frame) (s : State) : State :=
  match firstBadField s.store.consts.hmax f.body with
  | some no => s.answer f .range no []
  | none =>
    let r := jobOfBody f.body
    if (s.entry r.number).isSome then s.answer f .duplicate 0 []
    else if maxJobs ≤ s.jobs.length then s.answer f .tableFull 0 []
    else ((s.setJobs (s.jobs ++ [newEntry r])).notify (.job r.number .queued .accepted)).answer f .ok 0 []

/-- SUBMIT (R20). -/
def execSubmit (s : State) : Result := .next (s.serve 0x01#8 36 submitJob).finish

/-- The stations that hold a withdrawn RUNNING job's material go to CLEARANCE (R31, R77, R119, R138, R154). Which of them queues
its WAIT notice first is the model's choice: Infeed, Jogger, Runner (log 28). -/
def State.clearStations (s : State) (n : Nat) : State :=
  let runner := s.runnerHolds n
  let jogger := s.jogger.holds n
  let s := s.clearInfeed n
  let s := if jogger then s.clearJogger else s
  if runner then s.clearRunner.withdrawCut else s

/-- The work done for a job is undone, by its state (R30, R31). -/
def State.undoJob (s : State) (e : JobEntry) : State :=
  match e.state with
  | .planning => s.setPlanner none
  | .called => s.withdrawCall
  | .running => s.clearStations e.record.number
  | .queued => s
  | .planned => s
  | .done => s
  | .cancelled => s
  | .refused => s

/-- WITHDRAW carried out (R30, R31, R42): the JOB notice CANCELLED is queued before the stations' WAIT notices (log 28). -/
def withdrawJob (f : Frame) (s : State) : State :=
  match s.entry (fieldAt f.body 0 2) with
  | none => s.answer f .noJob 0 []
  | some e => (((s.endJob e .cancelled .withdrawn).undoJob e)).answer f .ok 0 []

/-- WITHDRAW (R30). -/
def execWithdraw (s : State) : Result := .next (s.serve 0x02#8 2 withdrawJob).finish

/-- JOB_INFO carried out (R33). -/
def reportJob (f : Frame) (s : State) : State :=
  match s.entry (fieldAt f.body 0 2) with
  | none => s.answer f .noJob 0 []
  | some e => s.answer f .ok 0 (e.info (s.place e.record.number))

/-- JOB_INFO (R33). -/
def execJobInfo (s : State) : Result := .next (s.serve 0x03#8 2 reportJob).transmit

/-- LINE_INFO carried out (R187): the overflow indicator is reported and then cleared. -/
def reportLine (f : Frame) (s : State) : State :=
  let t := s.answer f .ok 0 s.lineStatus
  t.setLink { t.link with overflow := false }

/-- LINE_INFO (R187). -/
def execLineInfo (s : State) : Result := .next (s.serve 0x04#8 0 reportLine).transmit

/-- HOLD carried out (R75). -/
def setHold (f : Frame) (s : State) : State := (s.setRunner { s.runner with hold := true }).answer f .ok 0 []

/-- HOLD (R75). -/
def execHold (s : State) : Result := .next (s.serve 0x05#8 0 setHold).transmit

/-- RESUME carried out (R75): a held step begins, or the lift ends, unless an inspection is pending. -/
def clearHold (f : Frame) (s : State) : State :=
  let held := s.runner.hold
  let t := s.setRunner { s.runner with hold := false }
  (if held then t.resumeHeld else t).answer f .ok 0 []

/-- RESUME (R75). -/
def execResume (s : State) : Result := .next (s.serve 0x06#8 0 clearHold).finish

/-- ADMIT carried out (R25). -/
def setLevel (f : Frame) (s : State) : State :=
  let level := fieldAt f.body 0 1
  if level ≤ 7 then (s.setAdmission level).answer f .ok 0 [] else s.answer f .range 1 []

/-- ADMIT (R25). -/
def execAdmitLevel (s : State) : Result := .next (s.serve 0x07#8 1 setLevel).finish

/-! ### CLEAR and REFERENCE (R172, R85) -/

/-- What the field shows at a CLEAR (log 4). -/
def State.view (s : State) (v : FieldView) : State :=
  let s := (s.sense .knifeTop v.knifeTop).sense .clampTop v.clampTop
  s.setChannels { s.channels with pileTop := v.pileTop }

/-- CLEAR carried out (R172): the reply is formed after the clearing. -/
def clearRequest (v : FieldView) (f : Frame) (s : State) : State := (s.view v).clearFaults.answer f .ok 0 []

/-- CLEAR (R172). -/
def execClear (v : FieldView) (s : State) : Result := .next (s.serve 0x08#8 0 (clearRequest v)).finish

/-- The conditions under which REFERENCE is refused BUSY (R85). An axis that a station fault has put in FAULTED is refused by
the last of them. -/
def State.referenceBusy (s : State) : Bool :=
  s.gauge.inMotion || s.cycle.state ≠ .ready || s.runner.inPhase .awaitStart || s.stop || s.guillotineHalt

/-- REFERENCE carried out (R85). -/
def referenceRequest (f : Frame) (s : State) : State :=
  if s.referenceBusy then s.answer f .busy 0 [] else s.startReference.answer f .ok 0 []

/-- REFERENCE (R85). -/
def execReference (s : State) : Result := .next (s.serve 0x09#8 0 referenceRequest).transmit

/-! ### The Constant Store (R178 to R181) -/

/-- An accepted write starts (R181). -/
def State.startWrite (s : State) (f : Frame) (t : WriteTarget) : State :=
  s.setStore { s.store with write := some ⟨t, f.kind, f.tag, Timer.start writeMs⟩ }

/-- CLASS_SET carried out (R180). -/
def classWrite (f : Frame) (s : State) : State :=
  let n := fieldAt f.body 0 1
  if 15 < n then s.answer f .range 1 []
  else if s.store.write.isSome then s.answer f .busy 0 []
  else
    match firstBadClassField (classOfBody f.body) with
    | some no => s.answer f .range no []
    | none => s.startWrite f (.cls n (classOfBody f.body))

/-- CLASS_SET (R180). -/
def execClassSet (s : State) : Result := .next (s.serve 0x0A#8 7 classWrite).transmit

/-- CLASS_GET carried out (R178). -/
def classRead (f : Frame) (s : State) : State :=
  let n := fieldAt f.body 0 1
  if 15 < n then s.answer f .range 1 [] else s.answer f .ok 0 (bodyOfClass n (s.classOf n))

/-- CLASS_GET (R178). -/
def execClassGet (s : State) : Result := .next (s.serve 0x0B#8 1 classRead).transmit

/-- CONST_SET carried out (R179). -/
def constWrite (serviceKey : Bool) (f : Frame) (s : State) : State :=
  let n := fieldAt f.body 0 1
  let v := signedAt f.body 1
  let s := s.sense .serviceKey serviceKey
  if !isConst n then s.answer f .unknown 0 []
  else if !s.on .serviceKey then s.answer f .protected_ 0 []
  else if s.jobRunning || s.store.write.isSome then s.answer f .busy 0 []
  else if constValueOk s.store.consts n v then s.startWrite f (.const n v)
  else s.answer f .range 2 []

/-- CONST_SET (R179). -/
def execConstSet (serviceKey : Bool) (s : State) : Result :=
  .next (s.serve 0x0C#8 5 (constWrite serviceKey)).transmit

/-- CONST_GET carried out (R178). -/
def constRead (f : Frame) (s : State) : State :=
  let n := fieldAt f.body 0 1
  match s.store.consts.get n with
  | some v => s.answer f .ok 0 (constBytes n v)
  | none => s.answer f .unknown 0 []

/-- CONST_GET (R178). -/
def execConstGet (s : State) : Result := .next (s.serve 0x0D#8 1 constRead).transmit

/-- The write in flight completes (R181): the record takes its value, the store is IDLE, the reply joins the list, and after it
the deferred reply of a RESTART served meanwhile (R189). -/
def State.completeWrite (s : State) (w : StoreWrite) : State :=
  let s := s.setStore { s.store.commit w.target with write := none }
  let s := s.reply ⟨w.kind, w.tag, .ok, 0, []⟩
  match s.link.restart with
  | some tag =>
    if s.link.restartDeferred then
      let s := s.setLink { s.link with restartDeferred := false }
      s.reply ⟨0x10#8, tag, .ok, 0, []⟩
    else s
  | none => s

/-- STORE_WRITE_COMPLETE (R181). -/
def execStoreWriteComplete (s : State) : Result :=
  match s.store.write with
  | some w => .next (s.completeWrite w).transmit
  | none => .next s.transmit

/-! ### Notices and RESTART (R189, R190) -/

/-- NOTICE_MODE carried out (R190). -/
def setMode (f : Frame) (s : State) : State :=
  match classOfCode (fieldAt f.body 0 1), modeOfCode (fieldAt f.body 1 1) with
  | none, _ => s.answer f .range 1 []
  | some _, none => s.answer f .range 2 []
  | some c, some m => (s.setLink { s.link with modes := s.link.modes.put c ⟨m, true⟩ }).answer f .ok 0 []

/-- NOTICE_MODE (R190). -/
def execNoticeMode (s : State) : Result := .next (s.serve 0x0E#8 2 setMode).transmit

/-- REARM carried out (R190). -/
def rearmClass (f : Frame) (s : State) : State :=
  match classOfCode (fieldAt f.body 0 1) with
  | none => s.answer f .range 1 []
  | some c =>
    (s.setLink { s.link with modes := s.link.modes.put c { s.link.modes.get c with armed := true } }).answer f .ok 0 []

/-- REARM (R190). -/
def execRearm (s : State) : Result := .next (s.serve 0x0F#8 1 rearmClass).transmit

/-- RESTART carried out (R189): serving stops; the reply joins the list at once, or after the write in flight. -/
def restartRequest (f : Frame) (s : State) : State :=
  if s.store.write.isSome then s.setLink { s.link with restart := some f.tag, restartDeferred := true }
  else (s.setLink { s.link with restart := some f.tag }).answer f .ok 0 []

/-- RESTART (R189). -/
def execRestart (s : State) : Result := .next (s.serve 0x10#8 0 restartRequest).transmit

end Sys2Proof.Machine
end

