-- ==== Sys2Proof/Machine/PanelCmds.lean ====
section
/-! DEFINITION. The operator's panel as commands: hand buttons, STEP_OK, JOG_OK, RESET_BTN (R72 to R78, R120 to R122, R148,
R155, R172). -/
namespace Sys2Proof.Machine

/-- The switch of a hand. -/
def handSwitch (h : Hand) : Switch :=
  match h with
  | .left => .handL
  | .right => .handR

/-- A press moves the monitor (R121): IDLE to ONE, and ONE to ENGAGED when both buttons are then pressed. -/
def State.pressHand (s : State) : State :=
  match s.cycle.monitor with
  | .idle => s.setCycle { s.cycle with monitor := .one, windowTimer := Timer.start windowMs }
  | .one =>
    if s.on .handL && s.on .handR then (s.setCycle (s.cycle.setMonitor .engaged)).engage else s
  | .engaged => s
  | .spent => s

/-- HAND_PRESS (R121, R105). -/
def execHandPress (hand : Hand) (s : State) : Result := .next (s.sense (handSwitch hand) true).pressHand.finish

/-- A release while ENGAGED (R121): SPENT; a request in WAIT_GRANT is withdrawn (R106), a CUT cycle before KNIFE_BOTTOM is
aborted (R113). -/
def State.releaseEngaged (s : State) : State :=
  let s := s.setCycle (s.cycle.setMonitor .spent)
  if s.cycle.state = .waitGrant then s.withdrawCycle
  else if s.cycle.purpose = some .cut then s.abortCycle false
  else s

/-- A release moves the monitor (R121). -/
def State.releaseHand (s : State) : State :=
  let none_ := !s.on .handL && !s.on .handR
  match s.cycle.monitor with
  | .idle => s
  | .one => if none_ then s.setCycle (s.cycle.setMonitor .idle) else s
  | .engaged => s.releaseEngaged
  | .spent => s

/-- HAND_RELEASE (R121, R106, R113): SPENT goes to IDLE once both buttons are released. -/
def execHandRelease (hand : Hand) (s : State) : Result :=
  let s := (s.sense (handSwitch hand) false).releaseHand
  .next (s.setCycle (s.cycle.refresh (s.on .handL) (s.on .handR))).transmit

/-- WINDOW_EXPIRY (R121): ONE goes to SPENT. -/
def execWindowExpiry (s : State) : Result :=
  .next (if s.cycle.monitor = .one then s.setCycle (s.cycle.setMonitor .spent) else s).transmit

/-! ### STEP_OK (R72 to R78) -/

/-- Two lengths differ by no more than the width tolerance (R72). -/
def widthAgrees (tolerance expected measured : Nat) : Bool :=
  measured ≤ expected + tolerance && expected ≤ measured + tolerance

/-- A confirmed TURN or RECALL is done: its STEP notice, then the step completes (R72). -/
def State.confirmStep (s : State) (t : CutStep) : State :=
  (s.stepNotice t .done (s.runner.moveResult.getD MoveResult.zero)).completeStep

/-- The width check of a TURN (R72, R11). -/
def State.confirmTurn (s : State) (t : CutStep) (kind : TurnKind) (measured : Nat) : State :=
  if widthAgrees s.store.consts.widthTolerance t.expAcross measured then
    (s.setRunner
      { s.runner with working := s.runner.working.map fun w => stackAfterTurn w kind t.strip }).confirmStep t
  else s.await (.mismatch t.expAcross measured)

/-- The width check of a RECALL (R72, R14): the across of the top Aside List entry is the step's expected across. -/
def State.confirmRecall (s : State) (t : CutStep) (measured : Nat) : State :=
  if widthAgrees s.store.consts.widthTolerance t.expAcross measured then
    (s.setRunner
      { s.runner with
        working := s.runner.aside.getLast?.map stackOfAside
        aside := s.runner.aside.dropLast }).confirmStep t
  else s.await (.mismatch t.expAcross measured)

/-- STEP_OK on the step in AWAIT_CONFIRM (R72, R73). -/
def State.confirm (s : State) (measured : Nat) : State :=
  match s.theStep with
  | none => s
  | some t =>
    match t.action with
    | .turn kind => s.confirmTurn t kind measured
    | .recall => s.confirmRecall t measured
    | .take _ => if s.on .loadInPlace then s else s.setRunner { s.runner with takeOk := true }
    | .cut _ _ _ => s

/-- STEP_OK by Runner state and phase (R78). -/
def State.stepOk (s : State) (measured : Nat) : State :=
  match s.runner.state with
  | .running => if s.runner.phase = some .awaitConfirm then s.confirm measured else s
  | .held => if s.runner.firstOff then (s.setRunner { s.runner with firstOff := false }).resumeHeld else s
  | .clearance =>
    if !s.on .loadInPlace && s.on .frontClear && s.cycle.state = .ready then s.setRunner { s.runner with state := .idle }
    else s
  | .idle => s
  | .loading => s
  | .liftEnd => s

/-- STEP_OK (R78), with a fresh probe reading (R72, R167). -/
def execStepOk (widthProbe : Nat) (s : State) : Result :=
  let s := (s.sense .stepOk true).setChannels { s.channels with widthProbe := widthProbe }
  .next (s.stepOk widthProbe).finish

/-! ### JOG_OK and RESET_BTN (R148, R155, R172) -/

/-- JOG_OK by Jogger state (R148, R155). -/
def State.jogOk (s : State) : State :=
  match s.jogger.state with
  | .failed => s.setJogger { s.jogger with state := .aligned }
  | .clearance =>
    if s.on .liftPresent then s
    else if s.on .pusherHome then s.setJogger s.jogger.emptied
    else if s.jogger.pusher = .back then s
    else s.setJogger (s.jogger.push .back (s.on .curtain))
  | .empty => s
  | .receiving => s
  | .jogging => s
  | .aligned => s
  | .handing => s

/-- JOG_OK removes JOG_FAILED from the set in any Jogger state (R148, R172). -/
def State.dropJogFailed (s : State) : State :=
  if s.faults.jogFailed then s.changeFaults { s.faults with jogFailed := false } else s

/-- JOG_OK (R148, R155, R172). -/
def execJogOk (liftPresent : Bool) (s : State) : Result :=
  .next ((s.sense .jogOk true).sense .liftPresent liftPresent).jogOk.dropJogFailed.finish

/-- RESET_BTN (R172): a CLEAR on the fault set. -/
def execResetBtn (v : FieldView) (s : State) : Result :=
  .next ((s.sense .resetBtn true).view v).clearFaults.finish

end Sys2Proof.Machine
end

