-- ==== Sys2Proof/Machine/PlannerCmds.lean ====
section
/-! DEFINITION. PLAN_DONE and PLAN_REFUSED (R27, R41). A completion that the layout does not give changes nothing (log 35). -/
namespace Sys2Proof.Machine

/-- PLAN_DONE (R27, R41). -/
def execPlanDone (s : State) : Result :=
  match s.planOutcome with
  | some (op, .done steps) => .next (s.planReady op steps).finish
  | some (_, .refused _) => .next s.finish
  | none => .next s.finish

/-- PLAN_REFUSED (R27, R41, R58). -/
def execPlanRefused (s : State) : Result :=
  match s.planOutcome with
  | some (op, .refused why) => .next (s.planRefuse op why).finish
  | some (_, .done _) => .next s.finish
  | none => .next s.finish

end Sys2Proof.Machine
end

