-- ==== Sys2Proof/Machine/SafetyCmds.lean ====
section
/-! DEFINITION. The emergency stop and the light curtain as commands (R166, R94, R113, R152). -/
namespace Sys2Proof.Machine

/-- E_STOP_OPEN (R166): the opening acts at once and latches ESTOP. -/
def execEStopOpen (s : State) : Result := .next ((s.sense .eStop true).latch .eStop).transmit

/-- E_STOP_RELEASED (R166): the stop stays until a CLEAR. -/
def execEStopReleased (s : State) : Result := .next (s.sense .eStop false).transmit

/-- A curtain break reaches the gauge (R94), the pusher (R152) and the cycle (R106, R113). -/
def State.breakCurtain (s : State) : State :=
  let s := s.sense .curtain true
  let s := (s.setGauge s.gauge.pause).setJogger s.jogger.pause
  if s.cycle.state = .waitGrant then s.withdrawCut
  else if s.cycle.purpose = some .cut then s.abortCycle false
  else s

/-- CURTAIN_BROKEN (R94, R106, R113, R152). -/
def execCurtainBroken (s : State) : Result := .next s.breakCurtain.transmit

/-- A curtain clear starts the 500 ms of a paused gauge and of a paused pusher (R94, R152). -/
def State.clearCurtain (s : State) : State :=
  let s := s.sense .curtain false
  (s.setGauge s.gauge.curtainClear).setJogger s.jogger.curtainClear

/-- CURTAIN_CLEAR (R94, R152). -/
def execCurtainClear (s : State) : Result := .next s.clearCurtain.transmit

/-- GAUGE_CURTAIN_CLEAR_EXPIRY (R94): a PAUSED motion resumes in the phase it kept. -/
def execGaugeCurtainClearExpiry (s : State) : Result :=
  .next
    (if s.gauge.state = .paused && s.gauge.clearTimer.running then s.setGauge s.gauge.resume else s).transmit

/-- The paused pusher resumes; its transfer timer counts on (R152). -/
def Jogger.resume (j : Jogger) : Jogger := { j with paused := false, clearTimer := Timer.stopped }

/-- PUSHER_CURTAIN_CLEAR_EXPIRY (R152). -/
def execPusherCurtainClearExpiry (s : State) : Result :=
  .next
    (if s.jogger.paused && s.jogger.clearTimer.running then s.setJogger s.jogger.resume else s).transmit

end Sys2Proof.Machine
end

