-- ==== Sys2Proof/Machine/TableCmds.lean ====
section
/-! DEFINITION. The switches of the guillotine table as commands (R65, R70, R76, R99, R152, R153). -/
namespace Sys2Proof.Machine

/-- PLATE_FITTED_ACTIVE (R65): a step waiting in PREPARE goes on as the part settles. -/
def execPlateFittedActive (s : State) : Result := .next (s.sense .plateFitted true).finish

/-- The plate comes off below Gmin_std with the reference VALID (R99), Gmin_std as the axis has read it (R100, log 19). -/
def State.plateLost (s : State) : Bool :=
  s.on .plateFitted && s.gauge.valid && s.gauge.position < (s.gauge.gminStd : Int)

/-- PLATE_FITTED_INACTIVE (R99). -/
def execPlateFittedInactive (s : State) : Result :=
  let t := s.sense .plateFitted false
  .next (if s.plateLost then t.latch .plateRemoved else t).transmit

/-- FRONT_CLEAR_ACTIVE (R70, R73, R76, R150): taken as the part settles. -/
def execFrontClearActive (s : State) : Result := .next (s.sense .frontClear true).finish

/-- LOAD_IN_PLACE completes the transfer in PUSH and in TIMED_OUT (R152, R153). -/
def State.liftInPlace (s : State) : State :=
  match s.jogger.phase, s.jogger.lift with
  | .push, some l => s.completeTransfer l
  | .timedOut, some l => s.completeTransfer l
  | _, _ => s

/-- LOAD_IN_PLACE_ACTIVE (R152, R153). -/
def execLoadInPlaceActive (s : State) : Result := .next (s.sense .loadInPlace true).liftInPlace.finish

/-- LOAD_IN_PLACE_INACTIVE (R76): taken as the part settles. -/
def execLoadInPlaceInactive (s : State) : Result := .next (s.sense .loadInPlace false).finish

end Sys2Proof.Machine
end

