-- ==== Sys2Proof/Machine/Dispatch.lean ====
section
/-! DEFINITION. One arm for each command: its meaning. -/
namespace Sys2Proof.Machine

-- The effect of a command on everything but the queue.
def exec (i : Instr) (s : State) : Host.Outcome State Fault Refusal :=
  match i with
  | .powerOnReset contacts signals => Sys2Proof.Machine.execPowerOnReset contacts signals s
  | .frameReceived bad kind tag body crc => Sys2Proof.Machine.execFrameReceived bad kind tag body crc s
  | .gapTimeout => Sys2Proof.Machine.execGapTimeout s
  | .frameSent => Sys2Proof.Machine.execFrameSent s
  | .requestUnknown => Sys2Proof.Machine.execRequestUnknown s
  | .submit => Sys2Proof.Machine.execSubmit s
  | .withdraw => Sys2Proof.Machine.execWithdraw s
  | .jobInfo => Sys2Proof.Machine.execJobInfo s
  | .lineInfo => Sys2Proof.Machine.execLineInfo s
  | .hold => Sys2Proof.Machine.execHold s
  | .resume => Sys2Proof.Machine.execResume s
  | .admitLevel => Sys2Proof.Machine.execAdmitLevel s
  | .clear view => Sys2Proof.Machine.execClear view s
  | .reference => Sys2Proof.Machine.execReference s
  | .classSet => Sys2Proof.Machine.execClassSet s
  | .classGet => Sys2Proof.Machine.execClassGet s
  | .constSet serviceKey => Sys2Proof.Machine.execConstSet serviceKey s
  | .constGet => Sys2Proof.Machine.execConstGet s
  | .noticeMode => Sys2Proof.Machine.execNoticeMode s
  | .rearm => Sys2Proof.Machine.execRearm s
  | .restart => Sys2Proof.Machine.execRestart s
  | .storeWriteComplete => Sys2Proof.Machine.execStoreWriteComplete s
  | .planDone => Sys2Proof.Machine.execPlanDone s
  | .planRefused => Sys2Proof.Machine.execPlanRefused s
  | .eStopOpen => Sys2Proof.Machine.execEStopOpen s
  | .eStopReleased => Sys2Proof.Machine.execEStopReleased s
  | .curtainBroken => Sys2Proof.Machine.execCurtainBroken s
  | .curtainClear => Sys2Proof.Machine.execCurtainClear s
  | .gaugeCurtainClearExpiry => Sys2Proof.Machine.execGaugeCurtainClearExpiry s
  | .pusherCurtainClearExpiry => Sys2Proof.Machine.execPusherCurtainClearExpiry s
  | .handPress hand => Sys2Proof.Machine.execHandPress hand s
  | .handRelease hand => Sys2Proof.Machine.execHandRelease hand s
  | .windowExpiry => Sys2Proof.Machine.execWindowExpiry s
  | .stepOk widthProbe => Sys2Proof.Machine.execStepOk widthProbe s
  | .jogOk liftPresent => Sys2Proof.Machine.execJogOk liftPresent s
  | .resetBtn view => Sys2Proof.Machine.execResetBtn view s
  | .homeSwitchActive => Sys2Proof.Machine.execHomeSwitchActive s
  | .encoderStep dir => Sys2Proof.Machine.execEncoderStep dir s
  | .settleExpiry => Sys2Proof.Machine.execSettleExpiry s
  | .searchLimitExpiry => Sys2Proof.Machine.execSearchLimitExpiry s
  | .encoderStall => Sys2Proof.Machine.execEncoderStall s
  | .clampPressureActive clampHeight => Sys2Proof.Machine.execClampPressureActive clampHeight s
  | .clampPressureInactive => Sys2Proof.Machine.execClampPressureInactive s
  | .clampBottom clampHeight => Sys2Proof.Machine.execClampBottom clampHeight s
  | .dwellExpiry => Sys2Proof.Machine.execDwellExpiry s
  | .entryPoint knifeHeight => Sys2Proof.Machine.execEntryPoint knifeHeight s
  | .knifeBottomActive => Sys2Proof.Machine.execKnifeBottomActive s
  | .knifeTopActive => Sys2Proof.Machine.execKnifeTopActive s
  | .clampTopActive => Sys2Proof.Machine.execClampTopActive s
  | .plateFittedActive => Sys2Proof.Machine.execPlateFittedActive s
  | .plateFittedInactive => Sys2Proof.Machine.execPlateFittedInactive s
  | .frontClearActive => Sys2Proof.Machine.execFrontClearActive s
  | .loadInPlaceActive => Sys2Proof.Machine.execLoadInPlaceActive s
  | .loadInPlaceInactive => Sys2Proof.Machine.execLoadInPlaceInactive s
  | .pilePresentActive pileTop => Sys2Proof.Machine.execPilePresentActive pileTop s
  | .pilePresentInactive => Sys2Proof.Machine.execPilePresentInactive s
  | .reamHeldInactive => Sys2Proof.Machine.execReamHeldInactive s
  | .motionDone unit reamHeld pileTop => Sys2Proof.Machine.execMotionDone unit reamHeld pileTop s
  | .motionTimerExpiry unit => Sys2Proof.Machine.execMotionTimerExpiry unit s
  | .pusherHomeActive => Sys2Proof.Machine.execPusherHomeActive s
  | .edgeScanEnd pulses => Sys2Proof.Machine.execEdgeScanEnd pulses s
  | .jogTimerExpiry => Sys2Proof.Machine.execJogTimerExpiry s
  | .transferTimerExpiry => Sys2Proof.Machine.execTransferTimerExpiry s
  | .hydReadyActive => Sys2Proof.Machine.execHydReadyActive s
  | .hydReadyInactive => Sys2Proof.Machine.execHydReadyInactive s
  | .lenAbove240 => Sys2Proof.Machine.execLenAbove240 s

end Sys2Proof.Machine
end

