-- ==== Sys2Proof/Machine/Outputs.lean ====
section
/-! DEFINITION. The pins the part drives, each a function of State (log 26): the cycle's valves (R104) and
the Infeed's (R125) as the Hydraulic Arbiter lets them act (R157), the gauge drive (R102), the Jogger's air, vibration and pusher
(R141, R142), and the frame on the line (R183). -/
namespace Sys2Proof.Machine

/-- A cylinder's valve: off, up or down (R104). -/
inductive Valve where
  | off | up | down
deriving DecidableEq, Repr

/-- The Cut Cycle unit's outputs (R104): clamp valve, knife valve, and the pressure output at a step or off. -/
structure CycleOutputs where
  clamp : Valve
  knife : Valve
  pressure : Option Nat
deriving DecidableEq, Repr

/-- All outputs off (R104). -/
def CycleOutputs.off : CycleOutputs := ⟨.off, .off, none⟩

/-- What the Cut Cycle unit commands in each cycle state (R104). In ABORT_RETURN the knife rises until KNIFE_TOP is active, then the
clamp (R114); that KNIFE_TOP is read as it stands there at every moment, so that it turns the clamp down again and the knife up
where it becomes inactive again, is the model's choice (DESIGN CHOICE, log 51). That the pressure output is off from UNCLAMP on
is the model's choice too (log 46): R104 names none there, and R112 has it go off at CLAMP_TOP. -/
def State.cycleCommand (s : State) : CycleOutputs :=
  match s.cycle.state with
  | .clamping | .dwell => ⟨.down, .off, some s.cycle.pressureStep⟩
  | .strokeDown => ⟨.down, .down, some s.cycle.pressureStep⟩
  | .strokeUp => ⟨.down, .up, some s.cycle.pressureStep⟩
  | .unclamp => ⟨.up, .off, none⟩
  | .abortReturn => if s.on .knifeTop then ⟨.up, .off, none⟩ else ⟨.down, .up, some s.cycle.pressureStep⟩
  | .ready | .waitGrant | .stopped | .returnNeeded => CycleOutputs.off

/-- The cycle's valves and pressure setting at the hydraulic unit: as the Cut Cycle unit commands while CUT holds the grant, and off
while it does not, whatever the unit commands (R157). -/
def State.cycleOutputs (s : State) : CycleOutputs :=
  if s.arbiter.holder = some .cut then s.cycleCommand else CycleOutputs.off

/-- The travel command of the gauge drive: set in REFERENCING and MOVING only (R102). -/
def State.gaugeTravel (s : State) : Bool := s.gauge.state = .referencing || s.gauge.state = .moving

/-- The direction of the gauge drive (R102): cleared by either reset until the first travel is commanded; then rearward in
SEARCH and OVERSHOOT, forward in APPROACH, cleared without a phase (log 26). -/
def State.gaugeDirection (s : State) : Option EncoderDir :=
  if s.gauge.driven then
    match s.gauge.phase with
    | some .search => some .rearward
    | some .overshoot => some .rearward
    | some .approach => some .forward
    | none => none
  else none

/-- The Turner motion whose valve outputs are on: the one in progress while TURN holds the grant (R125, R157). -/
def State.turnerValves (s : State) : Option InfeedMotion :=
  if s.arbiter.holder = some .turn then s.infeed.turnerMotion else none

/-- The Lift unit motion whose valve outputs are on: the one in progress while LIFT holds the grant (R125, R157). -/
def State.liftValves (s : State) : Option InfeedMotion :=
  if s.arbiter.holder = some .lift then s.infeed.liftMotion else none

/-- The air output: on in JOGGING while no stop holds jogging (R142, R144, R149). -/
def State.airOutput (s : State) : Bool := s.jogger.state = .jogging && s.jogger.jogTimer.running

/-- The vibration output: the level, or 0 for off (R142, R144, R149). -/
def State.vibrationOutput (s : State) : Nat := if s.airOutput then s.jogger.intensity else 0

/-- The frame on the line: the reply at the head of the list or the notice being sent (R183, R192). -/
def State.lineFrame (s : State) : List Byte :=
  match s.link.tx with
  | .idle => []
  | .reply => ((s.link.replies.head?).map Reply.frame).getD []
  | .notice q => q.frame

end Sys2Proof.Machine
end

