-- ==== Sys2Proof/Machine/Tick.lean ====
section
/-! DEFINITION. The part's own clock: what it does on an empty queue (log 1). A byte on the receive line is taken (R184); an
event of the part's own that has come about is put in the queue as its command; with none, one millisecond passes. -/
namespace Sys2Proof.Machine

/-! ### The receiver (R184) -/

/-- A byte joins the frame in progress: its error marks the frame bad, and the gap time starts anew. -/
def Receiver.keep (r : Receiver) (b : RxByte) : Receiver := { r with bad := r.bad || b.error, gap := Timer.start gapMs }

/-- The LEN of the frame in progress, once its header is whole. -/
def Receiver.len (r : Receiver) : Nat := ((r.header[2]?).map BitVec.toNat).getD 0

/-- The frame in progress, as FRAME_RECEIVED carries it (R185). -/
def Receiver.frame (r : Receiver) : Instr :=
  .frameReceived r.bad (r.header.headD 0) (r.header.getD 1 0) r.body (BitVec.ofNat 16 (leNat r.check))

/-- One received byte (R184), with the event it completes: the end of CHECK, or a LEN above 240. The command of that event
returns the receiver to HUNT. -/
def Receiver.take (r : Receiver) (b : RxByte) : Receiver × Option Instr :=
  match r.state with
  | .hunt =>
    if b.byte = 0xC3#8 && !b.error then ({ Receiver.hunting with state := .header, gap := Timer.start gapMs }, none)
    else (r, none)
  | .header =>
    let r := { r.keep b with header := r.header ++ [b.byte] }
    if r.header.length < 3 then (r, none)
    else if 240 < r.len then (r, some .lenAbove240)
    else if r.len = 0 then ({ r with state := .check }, none)
    else ({ r with state := .body }, none)
  | .body =>
    let r := { r.keep b with body := r.body ++ [b.byte] }
    if r.body.length < r.len then (r, none) else ({ r with state := .check }, none)
  | .check =>
    let r := { r.keep b with check := r.check ++ [b.byte] }
    if r.check.length < 2 then (r, none) else (r, some r.frame)

/-- The first byte on the line is taken. -/
def State.takeByte (s : State) : State :=
  match s.link.line with
  | [] => s
  | b :: rest =>
    let taken := s.link.rx.take b
    let s := s.setLink { s.link with rx := taken.1, line := rest }
    match taken.2 with
    | some c => s.setPending [c]
    | none => s

/-! ### The part's own events -/

/-- The gap in a frame is too long (R184). -/
def gapEvent (s : State) : Option Instr :=
  if s.link.rx.gap.due && s.link.rx.state ≠ .hunt then some .gapTimeout else none

/-- The field's view at a CLEAR: the filtered tops and the latest pile-top reading (R117, R137). -/
def State.fieldView (s : State) : FieldView := ⟨s.on .knifeTop, s.on .clampTop, s.channels.pileTop⟩

/-- The command that serves a request of a KIND (R187). -/
def serviceOf (s : State) (kind : Byte) : Instr :=
  match kind.toNat with
  | 1 => .submit
  | 2 => .withdraw
  | 3 => .jobInfo
  | 4 => .lineInfo
  | 5 => .hold
  | 6 => .resume
  | 7 => .admitLevel
  | 8 => .clear s.fieldView
  | 9 => .reference
  | 10 => .classSet
  | 11 => .classGet
  | 12 => .constSet (s.on .serviceKey)
  | 13 => .constGet
  | 14 => .noticeMode
  | 15 => .rearm
  | 16 => .restart
  | _ => .requestUnknown

/-- The request at the head of the queue may be served (R186). -/
def serveEvent (s : State) : Option Instr :=
  match s.link.requests with
  | f :: _ => if s.link.serving then some (serviceOf s f.kind) else none
  | [] => none

/-- The command of a filtered change, if the table has a row for it. -/
def changeOf (s : State) (x : Switch) (level : Bool) : Option Instr :=
  match x, level with
  | .curtain, true => some .curtainBroken
  | .curtain, false => some .curtainClear
  | .eStop, true => some .eStopOpen
  | .eStop, false => some .eStopReleased
  | .handL, true => some (.handPress .left)
  | .handL, false => some (.handRelease .left)
  | .handR, true => some (.handPress .right)
  | .handR, false => some (.handRelease .right)
  | .stepOk, true => some (.stepOk s.channels.widthProbe)
  | .jogOk, true => some (.jogOk (s.on .liftPresent))
  | .resetBtn, true => some (.resetBtn s.fieldView)
  | .homeSwitch, true => some .homeSwitchActive
  | .knifeTop, true => some .knifeTopActive
  | .knifeBottom, true => some .knifeBottomActive
  | .clampTop, true => some .clampTopActive
  | .clampPressure, true => some (.clampPressureActive s.channels.clampHeight)
  | .clampPressure, false => some .clampPressureInactive
  | .plateFitted, true => some .plateFittedActive
  | .plateFitted, false => some .plateFittedInactive
  | .frontClear, true => some .frontClearActive
  | .loadInPlace, true => some .loadInPlaceActive
  | .loadInPlace, false => some .loadInPlaceInactive
  | .pilePresent, true => some (.pilePresentActive s.channels.pileTop)
  | .pilePresent, false => some .pilePresentInactive
  | .reamHeld, false => some .reamHeldInactive
  | .pusherHome, true => some .pusherHomeActive
  | .hydReady, true => some .hydReadyActive
  | .hydReady, false => some .hydReadyInactive
  | .turnerDone, true => some (.motionDone .turner (s.on .reamHeld) s.channels.pileTop)
  | .liftDone, true => some (.motionDone .lift (s.on .reamHeld) s.channels.pileTop)
  | .stepOk, false | .jogOk, false | .resetBtn, false | .serviceKey, _ | .homeSwitch, false | .knifeTop, false
  | .knifeBottom, false | .clampTop, false | .frontClear, false | .reamHeld, true | .liftPresent, _ | .pusherHome, false
  | .turnerDone, false | .liftDone, false => none

/-- The first filtered change that the last sample has decided (R165), in the order of R164, as its command. -/
def changeEvent (s : State) : Option Instr :=
  allSwitches.findSome? fun x =>
    let i := s.inputs.get x
    if i.due && i.raw != i.filtered then changeOf s x i.raw else none

/-- The entry point at a sample in STROKE_DOWN (R110). The reading that stands as STROKE_DOWN begins is compared at once, before
the next sample (DESIGN CHOICE, log 48). -/
def entryEvent (s : State) : Option Instr :=
  if s.cycle.state = .strokeDown && !s.cycle.entryPassed && s.cycle.entered s.channels.knifeHeight then
    some (.entryPoint s.channels.knifeHeight)
  else none

/-- The clamp bottom in CLAMPING (R108). The clamp-height reading that stands as CLAMPING begins is compared at once, before the
next sample (DESIGN CHOICE, log 48). -/
def bottomEvent (s : State) : Option Instr :=
  if s.cycle.state = .clamping && s.channels.clampHeight ≤ clampBottomTenths then
    some (.clampBottom s.channels.clampHeight)
  else none

/-- The Gauge Axis's timers (R92, R85, R97, R94). -/
def gaugeEvent (s : State) : Option Instr :=
  if s.gauge.state = .settling && s.gauge.move.isSome && s.gauge.settleTimer.due then some .settleExpiry
  else if s.gauge.state = .referencing && s.gauge.phase = some .search && s.gauge.searchTimer.due then
    some .searchLimitExpiry
  else if s.gauge.stallTimer.due then some .encoderStall
  else if s.gauge.state = .paused && s.gauge.clearTimer.due then some .gaugeCurtainClearExpiry
  else none

/-- The Cut Cycle unit's timers (R121, R109). -/
def cycleEvent (s : State) : Option Instr :=
  if s.cycle.monitor = .one && s.cycle.windowTimer.due then some .windowExpiry
  else if s.cycle.state = .dwell && s.cycle.dwellTimer.due then some .dwellExpiry
  else none

/-- The Infeed's timers (R125). -/
def infeedEvent (s : State) : Option Instr :=
  if s.infeed.turnerTimer.due then some (.motionTimerExpiry .turner)
  else if s.infeed.liftTimer.due then some (.motionTimerExpiry .lift)
  else none

/-- The end of an edge scan (R145). -/
def scanEvent (s : State) : Option Instr :=
  match s.jogger.scan with
  | some r => if s.jogger.state = .jogging && r.timer.due then some (.edgeScanEnd r.counts) else none
  | none => none

/-- The Jogger's timers (R147, R152, R153). -/
def joggerEvent (s : State) : Option Instr :=
  if s.jogger.state = .jogging && s.jogger.jogTimer.due then some .jogTimerExpiry
  else if s.jogger.phase = .push && s.pusherOutput = .forward && s.jogger.transferTimer.due then
    some .transferTimerExpiry
  else if s.jogger.paused && s.jogger.clearTimer.due then some .pusherCurtainClearExpiry
  else none

/-- The end of the planning operation, at its latest moment (R41, log 24). -/
def planEvent (s : State) : Option Instr :=
  match s.planner with
  | some op =>
    if op.timer.due then
      match s.planOutcome with
      | some (_, .done _) => some .planDone
      | some (_, .refused _) => some .planRefused
      | none => none
    else none
  | none => none

/-- The end of the store write, at its latest moment (R181, log 24), and of the frame on the line (R192). -/
def linkEvent (s : State) : Option Instr :=
  if ((s.store.write.map fun w => w.timer.due).getD false) then some .storeWriteComplete
  else if s.link.tx ≠ .idle && s.link.txTimer.due then some .frameSent
  else none

/-- The part's own events in the order in which they are looked at (log 1), behind the bytes on the line. -/
def ownEvents : List (State → Option Instr) :=
  [serveEvent, changeEvent, entryEvent, bottomEvent, gaugeEvent, cycleEvent, infeedEvent, scanEvent, joggerEvent,
   planEvent, linkEvent]

/-- The first event of the part's own that has come about. -/
def ownEvent (s : State) : Option Instr := ownEvents.findSome? fun e => e s

/-! ### One millisecond -/

/-- Every input is sampled (R164 to R166), with NF as the store holds it at this sample; `raw` gives the raw states. -/
def State.sampleInputs (s : State) (raw : Switch → Bool) : State :=
  s.setInputs
    (allSwitches.foldl
      (fun i x =>
        i.put x
          ((i.get x).sample (raw x) (stableCount s.store.consts x) (x = .eStop && raw x) (changeOf s x (raw x)).isSome))
      s.inputs)

/-- The pulses of a millisecond are counted by a scan in progress, whose counters stay at their top (R145). -/
def Jogger.countPulses (j : Jogger) (p : EdgeCounts) : Jogger :=
  { j with scan := j.scan.map fun r => { r with counts := saturatedCounts r.res (addCounts r.counts p) } }

/-- What the field shows in this millisecond is taken from the tape (log 5): the levels and the converted readings (R164,
R167), and with a sample on it the pulses, the bytes and the other events. -/
def State.sampleField (s : State) : State :=
  let t := (s.setChannels s.comingReadings).sampleInputs s.comingLevel
  match s.tape with
  | [] => t
  | y :: rest =>
    let t := (t.setTape rest).setJogger (t.jogger.countPulses y.pulses)
    let t := t.setLink { t.link with line := t.link.line ++ y.bytes }
    t.setPending (t.pending ++ y.events)

/-- The Cell Link's times run on. -/
def Link.tick (l : Link) : Link := { l with rx := { l.rx with gap := l.rx.gap.tick }, txTimer := l.txTimer.tick }

/-- The Gauge Axis's times run on. -/
def Gauge.tick (g : Gauge) : Gauge :=
  { g with
    settleTimer := g.settleTimer.tick
    searchTimer := g.searchTimer.tick
    stallTimer := g.stallTimer.tick
    clearTimer := g.clearTimer.tick }

/-- The Cut Cycle unit's times run on. -/
def Cycle.tick (c : Cycle) : Cycle := { c with windowTimer := c.windowTimer.tick, dwellTimer := c.dwellTimer.tick }

/-- The Infeed's times run on. -/
def Infeed.tick (i : Infeed) : Infeed := { i with turnerTimer := i.turnerTimer.tick, liftTimer := i.liftTimer.tick }

/-- The Jogger's times run on; the transfer timer counts only while the pusher output is FORWARD (R152). -/
def Jogger.tick (j : Jogger) (forward : Bool) : Jogger :=
  { j with
    jogTimer := j.jogTimer.tick
    scan := j.scan.map fun r => { r with timer := r.timer.tick }
    transferTimer := if forward then j.transferTimer.tick else j.transferTimer
    clearTimer := j.clearTimer.tick }

/-- The waiting times of the pending requests run on (R157). -/
def Arbiter.tick (a : Arbiter) : Arbiter :=
  { a with cut := a.cut.map (· + 1), lift := a.lift.map (· + 1), turn := a.turn.map (· + 1) }

/-- The store write's time runs on. -/
def Store.tick (st : Store) : Store := { st with write := st.write.map fun w => { w with timer := w.timer.tick } }

/-- Every running time of the part moves on by one millisecond. -/
def State.runTimes (s : State) : State :=
  let s := (s.setLink s.link.tick).setPlanner (s.planner.map fun op => { op with timer := op.timer.tick })
  let s := (s.setGauge s.gauge.tick).setCycle s.cycle.tick
  let s := (s.setInfeed s.infeed.tick).setJogger (s.jogger.tick (s.pusherOutput = .forward))
  (s.setArbiter s.arbiter.tick).setStore s.store.tick

/-- One millisecond: the field is sampled and the times run on. -/
def State.tick (s : State) : State := s.runTimes.sampleField

/-- What the part does of itself on an empty queue (log 1). -/
def State.idleStep (s : State) : State :=
  match gapEvent s with
  | some c => s.setPending [c]
  | none =>
    match s.link.line with
    | _ :: _ => s.takeByte
    | [] =>
      match ownEvent s with
      | some c => s.setPending [c]
      | none => s.tick

end Sys2Proof.Machine
end

