-- ==== Sys2Proof/Safety.lean ====
section
/-! DEFINITION. What the statements speak of: which parts of State a command leaves alone, when a reaction takes place, what the
beginning and the completion of a step, a reference run's start, a move asked, a cycle's end, the faults and jogging's start make
of the part, where an event of the part's own stands, and what counts as a safe state of the part (the knife's conditions, the bounds of the Cell Link, the Job Table, the store,
the Arbiter). -/
namespace Sys2Proof.Machine

/-- The fields of State, as names. -/
inductive Part where
  | link | jobs | admission | planner | bankA | bankB | runner | gauge | cycle | infeed | jogger | arbiter
  | inputs | channels | faults | store | free | pending | tape
deriving DecidableEq, Repr

/-- Every field of State is the same in `s` and `t`, but for those named in `ps`. -/
def SameBut (ps : List Part) (s t : State) : Prop :=
  (Part.link ∈ ps ∨ t.link = s.link)
    ∧ (Part.jobs ∈ ps ∨ t.jobs = s.jobs)
    ∧ (Part.admission ∈ ps ∨ t.admission = s.admission)
    ∧ (Part.planner ∈ ps ∨ t.planner = s.planner)
    ∧ (Part.bankA ∈ ps ∨ t.bankA = s.bankA)
    ∧ (Part.bankB ∈ ps ∨ t.bankB = s.bankB)
    ∧ (Part.runner ∈ ps ∨ t.runner = s.runner)
    ∧ (Part.gauge ∈ ps ∨ t.gauge = s.gauge)
    ∧ (Part.cycle ∈ ps ∨ t.cycle = s.cycle)
    ∧ (Part.infeed ∈ ps ∨ t.infeed = s.infeed)
    ∧ (Part.jogger ∈ ps ∨ t.jogger = s.jogger)
    ∧ (Part.arbiter ∈ ps ∨ t.arbiter = s.arbiter)
    ∧ (Part.inputs ∈ ps ∨ t.inputs = s.inputs)
    ∧ (Part.channels ∈ ps ∨ t.channels = s.channels)
    ∧ (Part.faults ∈ ps ∨ t.faults = s.faults)
    ∧ (Part.store ∈ ps ∨ t.store = s.store)
    ∧ (Part.free ∈ ps ∨ t.free = s.free)
    ∧ (Part.pending ∈ ps ∨ t.pending = s.pending)
    ∧ (Part.tape ∈ ps ∨ t.tape = s.tape)

/-- `s` and `t` differ at most in what the transmitter is sending: its state, its time, and the notice queue it takes from
(R192). Everything else of the Cell Link is the same. -/
def SameLinkButSending (s t : State) : Prop :=
  t.link = { s.link with tx := t.link.tx, txTimer := t.link.txTimer, notices := t.link.notices }

/-- The reaction `r` stands at place `n` among the reactions of the part (log 6), and takes place as it becomes due: a settled part
has it not due, and where it is due and none before it is, the part carries it out as it settles. -/
def TakenAt (n : Nat) (r : State → Option State) : Prop :=
  reactions[n]? = some r ∧ (∀ s, react s = none → r s = none) ∧
    ∀ s t : State, r s = some t → (∀ q ∈ reactions.take n, q s = none) →
      react s = some t ∧ s.finish = (settleN 63 t).transmit

/-- The stations that hold material of job `n`, in the order in which the model lets them queue their WAIT notice CLEARANCE at a
withdrawal (R31; the order is the model's choice, log 28). -/
def State.clearing (s : State) (n : Nat) : List Station :=
  (if s.infeed.turnerHolds n || s.infeed.liftHolds n then [.infeed] else []) ++
    (if s.jogger.holds n then [.jogger] else []) ++ (if s.runnerHolds n then [.runner] else [])

/-! ### Steps of a lift -/

/-- The step at the step index of `b` begins, in `u` (R63): RUNNING in its first phase, a CUT in PREPARE with a WAIT notice PLATE
where its plate is missing (R65), a TAKE with its WAIT notice STEP_OK (R73). Nothing else of the part changes. -/
def StepBegins (b u : State) : Prop :=
  SameBut [.link, .runner] b u ∧
    ∀ t : CutStep, b.theStep = some t →
      let at_ : StepPhase → Runner := fun p =>
        { b.runner with
          state := .running
          phase := some p
          moveResult := none
          takeOk := false
          faultBack := false }
      match t.action with
      | .cut _ _ plate =>
        if plate = true ∧ b.on .plateFitted = false then
          u.runner = at_ .prepare ∧ u.link = b.link.offer (.wait .plate)
        else u.runner = at_ .positioning ∧ u.link = b.link
      | .turn _ => u.runner = at_ .parking ∧ u.link = b.link
      | .recall => u.runner = at_ .parking ∧ u.link = b.link
      | .take _ => u.runner = at_ .awaitConfirm ∧ u.link = b.link.offer (.wait (.stepOk .take))

/-- The two figures of job `n` become those of `f`, in `u` (R32). Where the final lift count is then present and equal to the lifts
completed, the job is DONE: its entry leaves, its bank is EMPTY, and the JOB notice DONE is queued. Otherwise its entry alone
changes. -/
def FiguresTaken (b u : State) (n : Nat) (f : JobEntry → JobEntry) : Prop :=
  ∀ e : JobEntry, b.entry n = some e →
    if (f e).finalCount = some (f e).liftsCompleted then
      u.jobs = (b.jobs.filter fun x => x.record.number ≠ n) ∧
        u.bankA = (if e.bank = some .a then Bank.cleared else b.bankA) ∧
        u.bankB = (if e.bank = some .b then Bank.cleared else b.bankB) ∧
        u.link = b.link.offer (.job n .done .none)
    else
      u.jobs = (b.jobs.map fun x => if x.record.number = n then f x else x) ∧ u.bankA = b.bankA ∧
        u.bankB = b.bankB ∧ u.link = b.link

/-- The lift `l` on the table of `b` ends, in `u` (R76, R32): LIFT_END with the ended lift, no Working Stack, no cut-off and an
empty Aside List; the LIFT notice with the tally; one more lift completed of its job, which may be DONE by it. -/
def LiftEnds (b u : State) (l : CurrentLift) : Prop :=
  SameBut [.link, .jobs, .bankA, .bankB, .runner] b u ∧
    u.runner =
      { b.runner with
        state := .liftEnd
        lift := none
        ended := some ⟨l.job, l.lift⟩
        phase := none
        working := none
        cutoff := none
        aside := []
        lastDone := false
        takeOk := false } ∧
    FiguresTaken (b.setLink (b.link.offer (.lift l.job l.lift b.runner.tally))) u l.job fun e =>
      { e with liftsCompleted := e.liftsCompleted + 1 }

/-- The step in progress of `b`, with its own effect made, completes, in `u` (R63, R74, R75): with a further step the next one
begins, or the Runner is HELD at it under the hold flag or a pending inspection; after the last step the lift ends, or waits
HELD for the inspection. -/
def StepCompletes (b u : State) : Prop :=
  ∀ l : CurrentLift, b.runner.lift = some l →
    if b.runner.stepIndex + 1 < (b.bank l.bank).stepCount then
      if b.runner.hold = true ∨ b.runner.firstOff = true then
        u = b.setRunner { b.runner with stepIndex := b.runner.stepIndex + 1, state := .held, phase := none }
      else StepBegins (b.setRunner { b.runner with stepIndex := b.runner.stepIndex + 1 }) u
    else if b.runner.firstOff = true then
      u = b.setRunner { b.runner with state := .held, phase := none, lastDone := true }
    else LiftEnds b u l

/-! ### Moves and the reference run -/

/-- A reference run starts at the gauge of `b`, which becomes `g` (R84, R94, R100): the search rearward with a fresh search limit,
or, with HOME_SWITCH already active, the reference park from Ph; in PAUSED while the curtain is broken. -/
def ReferenceStarts (b : State) (g : Gauge) : Prop :=
  let c : Consts := b.store.consts
  g.refRun = some ⟨c.ph, c.gmax, c.backlash, c.wPos, c.settle⟩ ∧ g.pendingMove = b.gauge.pendingMove ∧
    g.corrective = 0 ∧ g.stallTimer.running = !b.on .curtain ∧
    (b.on .homeSwitch = false →
      g.valid = false ∧ g.position = b.gauge.position ∧ g.phase = some .search ∧
        (g.state = if b.on .curtain then .paused else .referencing) ∧ g.searchTimer = ⟨!b.on .curtain, 0, 30000⟩) ∧
    (b.on .homeSwitch = true →
      g.valid = true ∧ g.position = c.ph ∧ g.phase = some .approach ∧
        (g.state = if b.on .curtain then .paused else .moving) ∧ g.move.map Move.target = some (c.gmax : Int))

/-- The move `req` is asked of the gauge of `b`, in `u` (R86): an IDLE axis starts it, an UNREFERENCED one starts a reference run
with the move pending, a reference run in progress keeps it pending, and another move in progress is replaced by it. -/
def MoveAsked (b u : State) (req : MoveReq) : Prop :=
  let waits : State := b.setGauge { b.gauge with pendingMove := some req }
  (b.gauge.state = .idle → u.gauge = (b.startMove req).gauge) ∧
    (b.gauge.state = .unreferenced → ReferenceStarts waits u.gauge) ∧
    (b.gauge.inMotion = true → b.gauge.refRun.isSome = true → u.gauge = waits.gauge) ∧
    (b.gauge.inMotion = true → b.gauge.refRun = none → u.gauge = (b.startMove req).gauge)

/-! ### The cut cycle's end -/

/-- The cycle of `b` ends, in `u` (R112, R68, R69): READY without a purpose, an ENGAGED monitor SPENT, a grant held given back, and
a step in CYCLE goes to TAKEAWAY with its stroke counted, and back to AWAIT_START with a STEP notice ABORTED without. -/
def CycleEnds (b u : State) : Prop :=
  SameBut [.link, .runner, .cycle, .arbiter] b u ∧
    u.cycle =
      { b.cycle with
        state := .ready
        purpose := none
        entryPassed := false
        counted := false
        height := none
        faulted := false
        dwellTimer := Timer.stopped
        monitor := if b.cycle.monitor = .engaged then .spent else b.cycle.monitor
        windowTimer := if b.cycle.monitor = .engaged then Timer.stopped else b.cycle.windowTimer } ∧
    u.arbiter =
      (if b.arbiter.holder = some .cut then { b.arbiter with unit := freeUnit (b.on .hydReady), holder := none }
      else b.arbiter) ∧
    (b.runner.inPhase .cycle = false → u.runner = b.runner ∧ u.link = b.link) ∧
    (b.runner.inPhase .cycle = true → b.cycle.counted = true →
      u.runner = { b.runner with phase := some .takeaway } ∧ u.link = b.link) ∧
    ∀ (t : CutStep) (l : CurrentLift), b.runner.inPhase .cycle = true → b.cycle.counted = false →
      b.theStep = some t → b.runner.lift = some l →
      u.runner = { b.runner with phase := some .awaitStart } ∧
        u.link =
          b.link.offer (.step l.job l.lift t.index t.action.kind .aborted (b.runner.moveResult.getD ⟨false, 0, 0⟩))

/-! ### Withdrawals, aborts and faults -/

/-- The cycle in another state, an ENGAGED monitor SPENT without a window (R106, R113, R116, R122). -/
def Cycle.spentTo (c : Cycle) (st : CycleState) : Cycle :=
  { c with
    state := st
    monitor := if c.monitor = .engaged then .spent else c.monitor
    windowTimer := if c.monitor = .engaged then Timer.stopped else c.windowTimer }

/-- The cycle whose standing request is withdrawn or dropped: back in its return state (R106), without a purpose in READY; in
RETURN_NEEDED it keeps its purpose (log 13). -/
def Cycle.withdrawn (c : Cycle) : Cycle :=
  { c.spentTo (if c.returnState = .ready then .ready else .returnNeeded) with
    purpose := if c.returnState = .ready then none else c.purpose }

/-- The cycle aborted (R113, R115): ABORT_RETURN with the dwell over; `faulted` where a guillotine station fault aborts it. -/
def Cycle.aborted (c : Cycle) (faulted : Bool) : Cycle :=
  { c.spentTo .abortReturn with faulted := c.faulted || faulted, dwellTimer := Timer.stopped }

/-- The Runner of `b` as it takes entry passed at an abort or a stop (R10, R69): the Working Stack of a step in CYCLE gets its
partial-cut marker if the knife has passed the entry point; nothing else changes. -/
def State.runnerMarked (b : State) : Runner :=
  if b.cycle.entryPassed = true ∧ b.runner.inPhase .cycle = true then
    { b.runner with working := b.runner.working.map fun w => { w with partialCut := true } }
  else b.runner

/-- The gauge stands (R95): no motion, no pending move, the corrective count 0, every time stopped; reference, position and last
result stay. -/
def Gauge.stands (g : Gauge) (st : AxisState) : Gauge :=
  { g with
    state := st
    phase := none
    move := none
    pendingMove := none
    corrective := 0
    refRun := none
    settleTimer := Timer.stopped
    searchTimer := Timer.stopped
    stallTimer := Timer.stopped
    clearTimer := Timer.stopped }

/-- The gauge after an interruption (R95): a motion in progress ends in IDLE or, with the reference INVALID, in UNREFERENCED; a gauge
without a motion does not change. -/
def Gauge.interrupted (g : Gauge) : Gauge :=
  if g.inMotion then g.stands (if g.valid then .idle else .unreferenced) else g

/-- The notices of a latching: the FAULT notice with the set `f`, and behind it (R175) the STEP notice ABORTED of the reference run
that ends by it, with actual position 0 where the reference is then INVALID (R84, R86). -/
def Link.faulted (l : Link) (f : FaultSet) (run : Option RefRun) (valid : Bool) (pos : Int) : Link :=
  match run with
  | some r =>
    (l.offer (.fault f)).offer (.step 0 0 0 .reference .aborted ⟨false, r.gmax, if valid then pos else 0⟩)
  | none => l.offer (.fault f)

/-- The stop of a STOP-class fault begins in `b` and has begun in `u`, with the fault set `f` (R173): the FAULT notice, with the
STEP notice ABORTED of an interrupted reference run behind it (R95, R175); grant and requests gone (R162); a moving cycle STOPPED
with what it had, one in WAIT_GRANT back in its return state, an ENGAGED monitor of either SPENT (R116, R106); the gauge interrupted
(R95) and the Runner's ask void (R64), the Runner otherwise as it was (R79) but for entry passed before the count (R69); the Infeed's
motions interrupted (R125), one whose done would change no record discarded (log 16); jogging halted (R149). -/
def StopBegins (b u : State) (f : FaultSet) : Prop :=
  let motion : Bool := b.gauge.inMotion
  SameBut [.link, .runner, .gauge, .cycle, .infeed, .jogger, .arbiter, .faults] b u ∧
    u.faults = f ∧
    u.link = b.link.faulted f (if motion then b.gauge.refRun else none) b.gauge.valid b.gauge.position ∧
    u.arbiter = ⟨freeUnit (b.on .hydReady), none, none, none, none⟩ ∧
    u.cycle =
      (if b.cycle.moving then { b.cycle.spentTo .stopped with dwellTimer := Timer.stopped }
      else if b.cycle.state = .waitGrant then b.cycle.withdrawn
      else b.cycle) ∧
    u.gauge = b.gauge.interrupted ∧
    u.runner =
      { (if b.cycle.moving = true ∧ b.cycle.counted = false then b.runnerMarked else b.runner) with
        asked := if motion then none else b.runner.asked } ∧
    u.infeed =
      { b.infeed with
        turnerTimer := Timer.stopped
        liftTimer := Timer.stopped
        pickHeight := none
        turnerOrphan := none
        liftOrphan := none } ∧
    u.jogger =
      (if b.jogger.state = .jogging then { b.jogger with pass := 0, jogTimer := Timer.stopped, scan := none }
      else b.jogger)

/-- The guillotine's halt begins in `b` and has begun in `u`, as far as Runner, cycle and Arbiter go (R67, R106, R115, R174), the
Runner's ask being then `asked`: a cut in CLAMPING, DWELL or STROKE_DOWN is aborted to end FAULTED, and keeps the grant; a step in
AWAIT_START goes back to PREPARE, its cut waiting for the grant withdrawn. -/
def GuillotineHalts (b u : State) (asked : Option MoveAsk) : Prop :=
  let cut : Bool := b.cycle.purpose = some .cut
  let back : Bool := b.runner.inPhase .awaitStart
  u.cycle =
      (if cut = true ∧ b.cycle.cutting = true then b.cycle.aborted true
      else if cut = true ∧ b.cycle.state = .waitGrant ∧ back = true then b.cycle.withdrawn
      else b.cycle) ∧
    u.arbiter =
      (if cut = true ∧ b.cycle.state = .waitGrant ∧ back = true then { b.arbiter with cut := none } else b.arbiter) ∧
    u.runner =
      { (if cut = true ∧ b.cycle.cutting = true then b.runnerMarked else b.runner) with
        asked := asked
        phase := if back then some .prepare else b.runner.phase
        faultBack := back || b.runner.faultBack }

/-- A guillotine station fault that is not one of the axis's own is latched in `b`, in `u`, with the fault set `f` (R171, R174,
R175): the halt begins, and a motion of the gauge is interrupted (R95), its ask void. -/
def GuillotineFault (b u : State) (f : FaultSet) : Prop :=
  let motion : Bool := b.gauge.inMotion
  SameBut [.link, .runner, .gauge, .cycle, .arbiter, .faults] b u ∧
    u.faults = f ∧
    u.link = b.link.faulted f (if motion then b.gauge.refRun else none) b.gauge.valid b.gauge.position ∧
    u.gauge = b.gauge.interrupted ∧ GuillotineHalts b u (if motion then none else b.runner.asked)

/-- One of the axis's own three faults is latched in `b`, in `u`, with the fault set `f` (R85, R93, R97, R171, R174, R175): the axis
stands FAULTED with its reference as `valid` says, its ask void, a reference run ended ABORTED, and the halt begins. -/
def AxisFault (b u : State) (f : FaultSet) (valid : Bool) : Prop :=
  SameBut [.link, .runner, .gauge, .cycle, .arbiter, .faults] b u ∧
    u.faults = f ∧ u.link = b.link.faulted f b.gauge.refRun valid b.gauge.position ∧
    u.gauge = { b.gauge.stands .faulted with valid := valid } ∧ GuillotineHalts b u none

/-- An Infeed station fault is latched in `b`, in `u`, with the fault set `f` (R125, R171, R174, R175): both units' motions are
interrupted and stay owed, one whose done would change no record discarded (log 16), and both give back the unit or withdraw their
requests. -/
def InfeedFault (b u : State) (f : FaultSet) : Prop :=
  let gives : Bool := b.arbiter.holder = some .turn || b.arbiter.holder = some .lift
  SameBut [.link, .infeed, .arbiter, .faults] b u ∧
    u.faults = f ∧ u.link = b.link.offer (.fault f) ∧
    u.infeed =
      { b.infeed with
        turnerTimer := Timer.stopped
        liftTimer := Timer.stopped
        pickHeight := none
        turnerOrphan := none
        liftOrphan := none } ∧
    u.arbiter =
      { b.arbiter with
        turn := none
        lift := none
        unit := if gives then freeUnit (b.on .hydReady) else b.arbiter.unit
        holder := if gives then none else b.arbiter.holder }

/-! ### The part's own events -/

/-- The event `e` stands at place `n` among the part's own events (log 1): it is the one that the part puts in its queue where no
event before it has come about. -/
def EventAt (n : Nat) (e : State → Option Instr) : Prop :=
  ownEvents[n]? = some e ∧
    ∀ (s : State) (c : Instr), e s = some c → (∀ q ∈ ownEvents.take n, q s = none) → ownEvent s = some c

/-! ### Jogging -/

/-- The paper class of job `n`, as copied into its bank (R39). -/
def JobPaper (s : State) (n : Nat) (c : PaperClass) : Prop :=
  ∃ (e : JobEntry) (bk : BankId), s.entry n = some e ∧ e.bank = some bk ∧ (s.bank bk).snapshot = some c

/-- Jogging starts in `b`, at an intensity and re-jog status, and stands started in `u` (R144): pass count 0, a fresh jog timer
with the limit of the snapshot, and a first scan; timer and scan wait where a stop is in force. -/
def JogStarts (b u : State) (intensity : Nat) (rejog : Bool) : Prop :=
  SameBut [.jogger] b u ∧
    ∃ limit : Nat,
      (∀ l c, b.jogger.lift = some l → JobPaper b l.job c → limit = c.jogLimit * 1000) ∧
        u.jogger =
          { b.jogger with
            state := .jogging
            intensity := intensity
            rejogUsed := rejog
            pass := 0
            jogTimer := if b.stop then Timer.stopped else ⟨true, 0, limit⟩
            scan := if b.stop then none else some ⟨b.store.consts.res, ⟨0, 0, 0, 0, 0⟩, ⟨true, 0, 25⟩⟩ }

/-- Jogging starts as after a lift record handed over (R144): at the jog base intensity of the snapshot, the re-jog unused. -/
def BaseJogStarts (b u : State) : Prop :=
  ∃ i : Nat, (∀ l c, b.jogger.lift = some l → JobPaper b l.job c → i = c.intensity) ∧ JogStarts b u i false

/-! ### The Cell Link -/

/-- The link with the head request served and its reply at the end of the reply list (R186). -/
def Link.replied (l : Link) (f : Frame) (status : Status) (field : Nat) (data : List Byte) : Link :=
  { l with requests := l.requests.tail, replies := l.replies ++ [⟨f.kind, f.tag, status, field, data⟩] }

/-- The receiver after a run of bytes, with the events they complete, in order (R184). -/
def Receiver.feed (r : Receiver) (bytes : List RxByte) : Receiver × List Instr :=
  bytes.foldl (fun x b => ((x.1.take b).1, x.2 ++ (x.1.take b).2.toList)) (r, [])

/-- The bounds of R185, R186 and R191: at most 4 requests, 32 notices and 4 replies, where a write in flight and a deferred
RESTART reply each keep their place in the reply list; a RESTART reply is deferred only while a write is in flight (R189). -/
def State.linkBounded (s : State) : Prop :=
  s.link.requests.length ≤ 4 ∧ s.link.notices.length ≤ 32 ∧
    s.link.replies.length + s.store.write.isSome.toNat + s.link.restartDeferred.toNat ≤ 4 ∧
    (s.link.restartDeferred = true → s.link.restart.isSome ∧ s.store.write.isSome)

/-! ### The Job Table -/

/-- The bounds of R20, R22 and R25: at most 8 jobs, no number twice, an admission level of 0 to 7. -/
def State.tableBounded (s : State) : Prop :=
  s.jobs.length ≤ 8 ∧ (s.jobs.map fun e => e.record.number).Nodup ∧ s.admission ≤ 7

/-! ### The Constant Store -/

/-- The value of a write in flight is one that R179 and R180 accept. -/
def WriteTarget.valid (c : Consts) (w : WriteTarget) : Bool :=
  match w with
  | .const n v => isConst n && constValueOk c n v
  | .cls n x => n ≤ 15 && (firstBadClassField x).isNone

/-- R177 and R178: every constant in its range with both pairs consistent, sixteen paper classes with fields in range, and a
write in flight that keeps it so. -/
def State.storeSound (s : State) : Prop :=
  s.store.consts.wf = true ∧ s.store.classes.length = 16 ∧
    (∀ c ∈ s.store.classes, firstBadClassField c = none) ∧
    (∀ w, s.store.write = some w → w.target.valid s.store.consts = true)

/-! ### The Hydraulic Arbiter -/

/-- R158 to R162: HELD exactly while there is a holder, FREE or UNAVAILABLE as HYD_READY stands otherwise; no holder's own
request is pending; while a stop is in force there is neither holder nor request. And the Cut Cycle unit agrees (R104 to
R106, R116): it holds the grant exactly in its moving states, and its request is pending exactly in WAIT_GRANT, with a
purpose. -/
def State.arbiterSound (s : State) : Prop :=
  (s.arbiter.holder = none → s.arbiter.unit = freeUnit (s.on .hydReady)) ∧
    (∀ q, s.arbiter.holder = some q → s.arbiter.unit = .held ∧ s.arbiter.waiting q = none) ∧
    (s.stop = true → s.arbiter.holder = none ∧ ∀ q, s.arbiter.waiting q = none) ∧
    (s.arbiter.holder = some .cut ↔ s.cycle.moving = true) ∧
    (s.arbiter.cut.isSome = true ↔ s.cycle.state = .waitGrant) ∧
    (s.cycle.state = .waitGrant → s.cycle.purpose.isSome = true)

/-! ### The knife -/

/-- While a cycle clamps, dwells or strokes down: both hands are on, the monitor is ENGAGED, the curtain is clear, no stop is in
force, and the cycle's purpose is CUT (R105, R109, R113, R116, R121). A request in WAIT_GRANT for a cut stands under the
same conditions (R105, R106). -/
def State.knifeSafe (s : State) : Prop :=
  ((s.cycle.cutting = true ∨ (s.cycle.state = .waitGrant ∧ s.cycle.purpose = some .cut)) →
    s.cycle.monitor = .engaged ∧ s.on .curtain = false ∧ s.stop = false ∧ s.cycle.purpose = some .cut) ∧
    (s.cycle.monitor = .engaged → s.on .handL = true ∧ s.on .handR = true)

end Sys2Proof.Machine
end

