-- ==== Sys2Proof/Certificates/Slice0/Obligations.lean ====
section
/-! DEFINITION. The statements for the provers, in the order of OBLIGATIONS.json. -/

open Sys2Proof Sys2Proof.Machine

/-- O1. For every command c and state s with c at the front of its queue, step of s is exec of c on s with the queue's
rest. The queue is the model's own (log 1). -/
def Obligations.StepRunsTheFrontCommand : Prop :=
  ∀ (c : Instr) (rest : List Instr) (s : State), s.pending = c :: rest → step s = exec c (s.setPending rest)

/-- O2. With no command waiting: a gap over outside HUNT (R184) puts GAP_TIMEOUT in the queue; otherwise the first byte
on the line is taken by the receiver, and the event it completes, if any, is put in the queue; otherwise the first
event of the part's own that has come about is put in the queue, the service of the head request (R186) before any
other; otherwise the step is one millisecond of the part's clock, which leaves the Job Table, the banks, the Runner,
the faults, the admission level and the stored constants and classes alone. Nothing else changes in the first three
cases. In that millisecond every running timer moves on by one, up to its limit, and one that does not run stands:
the gap of a frame (R184) and the frame on the line (R192), the planning operation, the settle time, search limit,
stall watch and clear interval of the gauge, the window and the dwell, the two motion timers, the jog timer, the
scan and the clear interval of the pusher, the store write; the transfer timer moves on only while the pusher goes
forward, and is suspended during a stop or a pause (R149, R152); the waiting time of each pending request grows by
one (R157); a scan counts the pulses, kept at the top of its counters (R145), and the bytes, other events and rest
of the field's tape are taken as log 5 gives. The part's own events stand in one order: the service, the filtered
change, the entry point, the clamp bottom, the gauge, the cycle, the Infeed, the scan, the Jogger, the planner, the
store and the transmitter; each, where it has come about and none before it has, is the one put in the queue. What
each of them is, is stated: the entry point and the clamp bottom by the readings that stand (log 48), and a timer's
expiry once the timer runs, has reached its limit and its unit is in the state to which the timer belongs. The clock
and the order in which it looks are the model's own (log 1). -/
def Obligations.IdleStepServesOrTicks : Prop :=
  (∀ s : State, s.pending = [] →
    (s.link.rx.gap.due = true → s.link.rx.state ≠ .hunt → step s = .next (s.setPending [.gapTimeout])) ∧
    (s.link.rx.gap.due = false ∨ s.link.rx.state = .hunt →
      (∀ (b : RxByte) (rest : List RxByte), s.link.line = b :: rest →
        step s =
          .next
            ((s.setLink { s.link with rx := (s.link.rx.take b).1, line := rest }).setPending
              (s.link.rx.take b).2.toList)) ∧
      (s.link.line = [] →
        (∀ c, ownEvent s = some c → step s = .next (s.setPending [c])) ∧
        (∀ f rest, s.link.requests = f :: rest → s.link.serving = true →
          step s = .next (s.setPending [serviceOf s f.kind])) ∧
        (ownEvent s = none →
          step s = .next s.tick ∧
            SameBut
              [.link, .planner, .gauge, .cycle, .infeed, .jogger, .arbiter, .inputs, .channels, .store, .pending, .tape]
              s s.tick ∧
            s.tick.store.consts = s.store.consts ∧ s.tick.store.classes = s.store.classes)))) ∧
    let adv : Timer → Timer := fun t => if t.running then { t with elapsed := min (t.elapsed + 1) t.limit } else t
    let due : Timer → Prop := fun t => t.running = true ∧ t.limit ≤ t.elapsed
    (∀ s : State,
      let counts : ScanRun → EdgeCounts := fun r =>
        let top : Nat := 2 ^ r.res - 1
        match s.tape with
        | [] => r.counts
        | y :: _ =>
          ⟨min (r.counts.rf1 + y.pulses.rf1) top, min (r.counts.rf2 + y.pulses.rf2) top,
            min (r.counts.rf3 + y.pulses.rf3) top, min (r.counts.sf1 + y.pulses.sf1) top,
            min (r.counts.sf2 + y.pulses.sf2) top⟩
      s.tick.link =
          { s.link with
            rx := { s.link.rx with gap := adv s.link.rx.gap }
            txTimer := adv s.link.txTimer
            line := s.link.line ++ (s.tape.head?.map Sample.bytes).getD [] } ∧
        s.tick.planner = s.planner.map (fun op => { op with timer := adv op.timer }) ∧
        s.tick.gauge =
          { s.gauge with
            settleTimer := adv s.gauge.settleTimer
            searchTimer := adv s.gauge.searchTimer
            stallTimer := adv s.gauge.stallTimer
            clearTimer := adv s.gauge.clearTimer } ∧
        s.tick.cycle =
          { s.cycle with windowTimer := adv s.cycle.windowTimer, dwellTimer := adv s.cycle.dwellTimer } ∧
        s.tick.infeed =
          { s.infeed with turnerTimer := adv s.infeed.turnerTimer, liftTimer := adv s.infeed.liftTimer } ∧
        s.tick.jogger =
          { s.jogger with
            jogTimer := adv s.jogger.jogTimer
            scan := s.jogger.scan.map fun r => { r with timer := adv r.timer, counts := counts r }
            transferTimer :=
              if s.stop = false ∧ s.jogger.paused = false ∧ s.jogger.pusher = .forward then
                adv s.jogger.transferTimer
              else s.jogger.transferTimer
            clearTimer := adv s.jogger.clearTimer } ∧
        s.tick.arbiter =
          { s.arbiter with
            cut := s.arbiter.cut.map fun n => n + 1
            lift := s.arbiter.lift.map fun n => n + 1
            turn := s.arbiter.turn.map fun n => n + 1 } ∧
        s.tick.store = { s.store with write := s.store.write.map fun w => { w with timer := adv w.timer } } ∧
        s.tick.pending = s.pending ++ (s.tape.head?.map Sample.events).getD [] ∧ s.tick.tape = s.tape.tail) ∧
    EventAt 0 serveEvent ∧ EventAt 1 changeEvent ∧ EventAt 2 entryEvent ∧ EventAt 3 bottomEvent ∧
    EventAt 4 gaugeEvent ∧ EventAt 5 cycleEvent ∧ EventAt 6 infeedEvent ∧ EventAt 7 scanEvent ∧
    EventAt 8 joggerEvent ∧ EventAt 9 planEvent ∧ EventAt 10 linkEvent ∧ ownEvents.length = 11 ∧
    ∀ s : State,
      (∀ k, s.cycle.state = .strokeDown → s.cycle.entryPassed = false → s.cycle.height = some k →
        entryEvent s =
          if s.channels.knifeHeight ≤ k then some (.entryPoint s.channels.knifeHeight) else none) ∧
      (s.cycle.state ≠ .strokeDown ∨ s.cycle.entryPassed = true → entryEvent s = none) ∧
      (bottomEvent s =
        if s.cycle.state = .clamping ∧ s.channels.clampHeight ≤ 10 then some (.clampBottom s.channels.clampHeight)
        else none) ∧
      (gaugeEvent s =
        if s.gauge.state = .settling ∧ s.gauge.move ≠ none ∧ due s.gauge.settleTimer then some .settleExpiry
        else if s.gauge.state = .referencing ∧ s.gauge.phase = some .search ∧ due s.gauge.searchTimer then
          some .searchLimitExpiry
        else if due s.gauge.stallTimer then some .encoderStall
        else if s.gauge.state = .paused ∧ due s.gauge.clearTimer then some .gaugeCurtainClearExpiry
        else none) ∧
      (cycleEvent s =
        if s.cycle.monitor = .one ∧ due s.cycle.windowTimer then some .windowExpiry
        else if s.cycle.state = .dwell ∧ due s.cycle.dwellTimer then some .dwellExpiry
        else none) ∧
      (infeedEvent s =
        if due s.infeed.turnerTimer then some (.motionTimerExpiry .turner)
        else if due s.infeed.liftTimer then some (.motionTimerExpiry .lift)
        else none) ∧
      (∀ r, s.jogger.state = .jogging → s.jogger.scan = some r →
        scanEvent s = if due r.timer then some (.edgeScanEnd r.counts) else none) ∧
      (s.jogger.state ≠ .jogging ∨ s.jogger.scan = none → scanEvent s = none) ∧
      (joggerEvent s =
        if s.jogger.state = .jogging ∧ due s.jogger.jogTimer then some .jogTimerExpiry
        else if s.jogger.phase = .push ∧ s.pusherOutput = .forward ∧ due s.jogger.transferTimer then
          some .transferTimerExpiry
        else if s.jogger.paused = true ∧ due s.jogger.clearTimer then some .pusherCurtainClearExpiry
        else none) ∧
      (∀ op o, s.planner = some op → s.planOutcome = some o →
        planEvent s =
          if due op.timer then
            (match o.2 with
            | .done _ => some .planDone
            | .refused _ => some .planRefused)
          else none) ∧
      (s.planner = none → planEvent s = none) ∧
      (∀ w, s.store.write = some w → due w.timer → linkEvent s = some .storeWriteComplete) ∧
      ((∀ w, s.store.write = some w → ¬due w.timer) →
        linkEvent s = if s.link.tx ≠ .idle ∧ due s.link.txTimer then some .frameSent else none)

/-- O3. For every KIND, TAG and body of at most 240 bytes: the bytes of the frame of R183, taken one after another from
HUNT without an error, end in exactly one event, FRAME_RECEIVED with that KIND, TAG, body and CRC, marked good, and
the frame is good (R185). So no part of a frame is dropped on the line. -/
def Obligations.FramesReadBack : Prop :=
  ∀ (kind tag : Byte) (body : List Byte), body.length ≤ 240 →
    (Receiver.hunting.feed ((frameBytes kind tag body).map fun b => ⟨b, false⟩)).2 =
        [.frameReceived false kind tag body (frameCrc kind tag body)] ∧
      goodFrame false kind tag body (frameCrc kind tag body) = true

/-- O4. In HUNT a byte C3h without an error starts a frame marked good and any other byte is discarded. In HEADER, BODY
and CHECK a byte is kept in its place, an error marks the frame bad and no error leaves the mark, and the gap time
starts anew; its limit of 11 whole milliseconds stands for "more than 10 ms" (log 25). The third header byte above
240 is the event LEN_ABOVE_240; otherwise it leads to CHECK when it is 0 and to BODY when it is not; the last body
byte leads to CHECK; the second check byte is the event FRAME_RECEIVED. No other byte is an event. -/
def Obligations.ReceiverTakesEachByte : Prop :=
  ∀ (r : Receiver) (b : RxByte),
    let kept : Receiver := { r with bad := r.bad || b.error, gap := ⟨true, 0, 11⟩ }
    (r.state = .hunt → b.byte = 0xC3#8 → b.error = false →
      r.take b = (⟨.header, false, [], [], [], ⟨true, 0, 11⟩⟩, none)) ∧
    (r.state = .hunt → (b.byte ≠ 0xC3#8 ∨ b.error = true) → r.take b = (r, none)) ∧
    (r.state = .header → r.header.length < 2 →
      r.take b = ({ kept with header := r.header ++ [b.byte] }, none)) ∧
    (r.state = .header → r.header.length = 2 →
      r.take b =
        ({ kept with
            header := r.header ++ [b.byte]
            state := if 240 < b.byte.toNat then .header else if b.byte.toNat = 0 then .check else .body },
          if 240 < b.byte.toNat then some .lenAbove240 else none)) ∧
    (r.state = .body →
      r.take b =
        ({ kept with
            body := r.body ++ [b.byte]
            state := if r.body.length + 1 < r.len then .body else .check }, none)) ∧
    (r.state = .check → r.check.length = 0 →
      r.take b = ({ kept with check := r.check ++ [b.byte] }, none)) ∧
    (r.state = .check → r.check.length = 1 → r.header.length = 3 →
      r.take b =
        ({ kept with check := r.check ++ [b.byte] },
          some (.frameReceived (r.bad || b.error) (r.header.getD 0 0) (r.header.getD 1 0) r.body
            (BitVec.ofNat 16 (leNat (r.check ++ [b.byte]))))))

/-- O5. After FRAME_RECEIVED the receiver is in HUNT. A frame that is bad, longer than 240 bytes or with a wrong CRC
changes nothing else. A good frame joins the request queue at its tail if it holds fewer than 4 frames; otherwise a
QUEUE_FULL reply with its KIND and TAG joins the reply list if that holds fewer than 3 replies and no RESTART stands
served; otherwise nothing. GAP_TIMEOUT outside HUNT and LEN_ABOVE_240 in HEADER return the receiver to HUNT, with no
reply, no notice and no fault. Nothing else of the part changes, apart from what the transmitter then sends. -/
def Obligations.FrameReceivedIsOffered : Prop :=
  (∀ (bad : Bool) (kind tag : Byte) (body : List Byte) (crc : Word16) (s : State),
      ∃ u : State, exec (.frameReceived bad kind tag body crc) s = .next u.transmit ∧ SameBut [.link] s u ∧
        u.link =
          if bad = false ∧ body.length ≤ 240 ∧ crc = frameCrc kind tag body then
            if s.link.requests.length < 4 then
              { s.link with rx := Receiver.hunting, requests := s.link.requests ++ [⟨kind, tag, body⟩] }
            else if s.link.replies.length < 3 ∧ s.link.restart = none then
              { s.link with
                rx := Receiver.hunting
                replies := s.link.replies ++ [⟨kind, tag, .queueFull, 0, []⟩] }
            else { s.link with rx := Receiver.hunting }
          else { s.link with rx := Receiver.hunting }) ∧
    ∀ s : State,
      (s.link.rx.state ≠ .hunt →
        exec .gapTimeout s = .next (s.setLink { s.link with rx := Receiver.hunting }).transmit) ∧
      (s.link.rx.state = .header →
        exec .lenAbove240 s = .next (s.setLink { s.link with rx := Receiver.hunting }).transmit)

/-- O6. When a frame other than the RESTART reply has left: a reply sent leaves the reply list at its head; then the
reply now at the head is sent if there is one, otherwise the notice at the head, otherwise the transmitter is idle.
That a notice leaves its queue as its sending begins is the model's choice (log 8). The request queue, the rest of
the link and everything else of the part are unchanged. -/
def Obligations.TransmitterChoosesNext : Prop :=
  ∀ s : State, s.link.restartSent = false → s.link.tx ≠ .idle →
    ∃ t : State, exec .frameSent s = .next t ∧ SameBut [.link] s t ∧
      t.link.replies = (if s.link.tx = .reply then s.link.replies.tail else s.link.replies) ∧
      t.link =
        { s.link with
          replies := t.link.replies
          notices := if t.link.replies = [] then s.link.notices.tail else s.link.notices
          tx := t.link.tx
          txTimer := t.link.txTimer } ∧
      t.link.tx =
        (if t.link.replies = [] then
          match s.link.notices with
          | q :: _ => .notice q
          | [] => .idle
        else .reply)

/-- O7. OFF drops the notice. EVERY puts it to the queue. ONCE puts it to the queue while the class is armed, and
disarms the class if it joined. ONCE disarmed drops it. A notice put to a queue of fewer than 32 joins at the tail
with the notice number, which increases by one; put to a queue of 32 it sets the overflow indicator and takes no
number. Nothing else of the link changes. -/
def Obligations.NoticesJoinByMode : Prop :=
  ∀ (l : Link) (n : Notice), l.notices.length ≤ 32 →
    ((l.modes.get n.cls).mode = .off → l.offer n = l) ∧
    ((l.modes.get n.cls).mode = .once → (l.modes.get n.cls).armed = false → l.offer n = l) ∧
    (l.notices.length = 32 →
      ((l.modes.get n.cls).mode = .every ∨ (l.modes.get n.cls).mode = .once ∧ (l.modes.get n.cls).armed = true) →
      l.offer n = { l with overflow := true }) ∧
    (l.notices.length < 32 → (l.modes.get n.cls).mode = .every →
      l.offer n = { l with notices := l.notices ++ [⟨l.number, n⟩], number := l.number + 1 }) ∧
    (l.notices.length < 32 → (l.modes.get n.cls).mode = .once → (l.modes.get n.cls).armed = true →
      l.offer n =
        { l with
          notices := l.notices ++ [⟨l.number, n⟩]
          number := l.number + 1
          modes := l.modes.put n.cls ⟨.once, false⟩ })

/-- O8. REQUEST_UNKNOWN serves the head of the request queue when its KIND is not 01h to 10h: the frame leaves the queue
and a reply UNKNOWN with its KIND and TAG joins the reply list; nothing else changes, apart from what the
transmitter then sends. For each of the sixteen requests: if the frame at the head is served with a body length
other than R187 gives, a reply RANGE with field number 0 joins the reply list and nothing else changes; then the
part settles (for the requests that can set other blocks going) and the transmitter chooses. -/
def Obligations.UnservableRequestsAreRefused : Prop :=
  (∀ (s : State) (f : Frame) (rest : List Frame), s.link.requests = f :: rest → s.link.serving = true →
      (f.kind.toNat = 0 ∨ 16 < f.kind.toNat) →
      exec .requestUnknown s = .next (s.setLink (s.link.replied f .unknown 0 [])).transmit) ∧
    ∀ (s : State) (c : Instr) (code : Byte) (len : Nat) (f : Frame) (v : FieldView) (key : Bool),
    s.request code = some f → f.body.length ≠ len →
    ((c, code, len) ∈
        [(.submit, 0x01#8, 36), (.withdraw, 0x02#8, 2), (.resume, 0x06#8, 0), (.admitLevel, 0x07#8, 1),
         (.clear v, 0x08#8, 0)] →
      exec c s = .next (s.setLink (s.link.replied f .range 0 [])).finish) ∧
    ((c, code, len) ∈
        [(.jobInfo, 0x03#8, 2), (.lineInfo, 0x04#8, 0), (.hold, 0x05#8, 0), (.reference, 0x09#8, 0),
         (.classSet, 0x0A#8, 7), (.classGet, 0x0B#8, 1), (.constSet key, 0x0C#8, 5), (.constGet, 0x0D#8, 1),
         (.noticeMode, 0x0E#8, 2), (.rearm, 0x0F#8, 1), (.restart, 0x10#8, 0)] →
      exec c s = .next (s.setLink (s.link.replied f .range 0 [])).transmit)

/-- O9. A served SUBMIT of 36 bytes is answered RANGE with the number of the first field out of range, else DUPLICATE if
its number stands in the table, else TABLE_FULL if the table holds 8 entries; only the request queue and the reply
list change then. Otherwise it appends the entry (the record as submitted, QUEUED, no bank, no lifts completed, no
final lift count), queues the JOB notice QUEUED, ACCEPTED, and answers OK; nothing else changes before the part
settles, which may start a planning operation or displace a job. With no reaction due the part changes no further. -/
def Obligations.SubmitAcceptsOrRefuses : Prop :=
  ∀ (s : State) (f : Frame), s.request 0x01#8 = some f → f.body.length = 36 →
    (∀ no, firstBadField s.store.consts.hmax f.body = some no →
      exec .submit s = .next (s.setLink (s.link.replied f .range no [])).finish) ∧
    (firstBadField s.store.consts.hmax f.body = none →
      ((s.entry (jobOfBody f.body).number).isSome = true →
        exec .submit s = .next (s.setLink (s.link.replied f .duplicate 0 [])).finish) ∧
      (s.entry (jobOfBody f.body).number = none → 8 ≤ s.jobs.length →
        exec .submit s = .next (s.setLink (s.link.replied f .tableFull 0 [])).finish) ∧
      (s.entry (jobOfBody f.body).number = none → s.jobs.length < 8 →
        ∃ u : State, exec .submit s = .next u.finish ∧ (react u = none → exec .submit s = .next u.transmit) ∧
          SameBut [.link, .jobs] s u ∧
          u.jobs = s.jobs ++ [⟨jobOfBody f.body, .queued, none, 0, none⟩] ∧
          u.link =
            (s.link.offer (.job (jobOfBody f.body).number .queued .accepted)).replied f .ok 0 []))

/-- O10. For every job record whose eighteen fields lie in their ranges of R18 (under a highest lift height of at most
2,000, as R177 bounds Hmax), its 36-byte body decodes to the record, and no field of the body is found out of range.
So no field is dropped or misplaced. -/
def Obligations.JobRecordRoundTrip : Prop :=
  ∀ (r : JobRecord) (hmax : Nat), hmax ≤ 2000 → r.inRange hmax = true →
    (bodyOfJob r).length = 36 ∧ jobOfBody (bodyOfJob r) = r ∧ firstBadField hmax (bodyOfJob r) = none

/-- O11. A served WITHDRAW of a number that no entry holds is answered NO_JOB and changes nothing else. Otherwise the
entry leaves the table, the others keeping their order, the job's bank becomes EMPTY, the other bank is untouched,
the JOB notice CANCELLED, WITHDRAWN is queued, and OK is answered. For a QUEUED or PLANNED job nothing else changes;
for a PLANNING job the planner becomes IDLE; for a CALLED job the Turner becomes EMPTY with no job called, a
rejected-pile mark kept until the part settles (log 47). For a RUNNING job a WAIT notice CLEARANCE follows for each
of Infeed, Jogger and Runner that holds its material, in that order and behind the JOB notice (the model's choice,
log 28), and the cycle's record stays unless it waits for the grant. The faults, the gauge's record and the inputs
stay. -/
def Obligations.WithdrawRemovesTheJob : Prop :=
  ∀ (s : State) (f : Frame), s.request 0x02#8 = some f → f.body.length = 2 →
    (s.entry (fieldAt f.body 0 2) = none → exec .withdraw s = .next (s.setLink (s.link.replied f .noJob 0 [])).finish) ∧
    (∀ e, s.entry (fieldAt f.body 0 2) = some e →
      ∃ u : State, exec .withdraw s = .next u.finish ∧
        u.jobs = (s.jobs.filter fun x => x.record.number ≠ e.record.number) ∧
        (u.bankA = if e.bank = some .a then Bank.cleared else s.bankA) ∧
        (u.bankB = if e.bank = some .b then Bank.cleared else s.bankB) ∧
        SameBut [.link, .jobs, .planner, .bankA, .bankB, .runner, .cycle, .infeed, .jogger, .arbiter] s u ∧
        (e.state ≠ .running →
          u.link = (s.link.offer (.job e.record.number .cancelled .withdrawn)).replied f .ok 0 [] ∧
            SameBut [.link, .jobs, .planner, .bankA, .bankB, .infeed] s u ∧
            (u.planner = if e.state = .planning then none else s.planner) ∧
            (u.infeed =
              if e.state = .called then { s.infeed with turner := .empty, called := none } else s.infeed)) ∧
        (e.state = .running →
          u.link =
              ((s.clearing e.record.number).foldl (fun l x => l.offer (.wait (.clearance x)))
                (s.link.offer (.job e.record.number .cancelled .withdrawn))).replied f .ok 0 [] ∧
            u.planner = s.planner ∧ (s.cycle.state ≠ .waitGrant → u.cycle = s.cycle)))

/-- O12. A served WITHDRAW of a RUNNING job: the Runner goes to CLEARANCE if it holds the job's lift, with current lift,
ended lift, Working Stack, pending cut-off, Aside List, tally, park, step move result and step phase dropped, the
step index 0, first-off pending no and its hold flag kept; the Jogger goes to CLEARANCE if it holds the job's lift,
without lift record, receiving-for and scan, the transfer phase NONE, the jog timer stopped, the transfer timer at
rest and the pusher in HOLD; the Turner goes to CLEARANCE without pile record and motion list if the pile is the
job's; the Lift unit goes to CLEARANCE without its lift record if it works on the job's ream (a job is known by its
number alone: log 39). The pending request of an Infeed unit that goes to CLEARANCE is withdrawn; a motion of it
that holds the grant runs on, its done to change no record; the request of a unit that stays is untouched, and so is
the grant. A station that holds none of it does not change. A cut waiting for the grant is withdrawn if the Runner
holds the job's lift: back in its return state (READY, no purpose), its request gone from the Arbiter, an ENGAGED
monitor SPENT. Every other cycle keeps its record and its request. Each of Infeed, Jogger and Runner that clears
queues a WAIT notice CLEARANCE, in that order behind the JOB notice (log 28), and OK is answered. -/
def Obligations.WithdrawClearsTheStations : Prop :=
  ∀ (s : State) (f : Frame) (e : JobEntry), s.request 0x02#8 = some f → f.body.length = 2 →
    s.entry (fieldAt f.body 0 2) = some e → e.state = .running →
    let n : Nat := e.record.number
    let cut : Bool := s.runnerHolds n && s.cycle.state = .waitGrant && s.cycle.purpose = some .cut
    let turned : Infeed :=
      if s.infeed.turnerHolds n then
        { s.infeed with
          turner := .clearance
          pile := none
          motions := []
          pileLost := false
          unclamped := false
          turnerOrphan := if s.arbiter.holder = some .turn then s.infeed.turnerMotion else none }
      else s.infeed
    ∃ u : State, exec .withdraw s = .next u.finish ∧
      u.runner =
        (if s.runnerHolds n then
          ⟨.clearance, none, none, 0, none, s.runner.hold, false, none, none, none, none, [], ⟨0, 0, 0, 0, 0⟩, none, false,
            false, false⟩
        else s.runner) ∧
      u.jogger =
        (if s.jogger.holds n then
          { s.jogger with
            state := .clearance
            lift := none
            receivingFor := none
            intensity := 0
            rejogUsed := false
            jogTimer := Timer.stopped
            pass := 0
            scan := none
            phase := .none
            transferTimer := { s.jogger.transferTimer with running := false }
            pusher := .hold
            paused := false
            clearTimer := Timer.stopped }
        else s.jogger) ∧
      u.infeed =
        (if s.infeed.liftHolds n then
          { turned with
            lift := .clearance
            held := none
            clearReturn := false
            returnJob := none
            liftOrphan := if s.arbiter.holder = some .lift then s.infeed.liftMotion else none }
        else turned) ∧
      u.arbiter =
        { s.arbiter with
          cut := if cut then none else s.arbiter.cut
          turn := if s.infeed.turnerHolds n then none else s.arbiter.turn
          lift := if s.infeed.liftHolds n then none else s.arbiter.lift } ∧
      u.cycle = (if cut then s.cycle.withdrawn else s.cycle) ∧
      (cut = true → s.cycle.returnState = .ready →
        u.cycle.state = .ready ∧ u.cycle.purpose = none ∧ (s.cycle.monitor = .engaged → u.cycle.monitor = .spent)) ∧
      u.link =
        ((s.clearing n).foldl (fun l x => l.offer (.wait (.clearance x)))
          (s.link.offer (.job n .cancelled .withdrawn))).replied f .ok 0 [] ∧
      SameBut [.link, .jobs, .bankA, .bankB, .runner, .cycle, .infeed, .jogger, .arbiter] s u

/-- O13. JOB_INFO answers OK with the entry's data, or NO_JOB. LINE_INFO answers OK with the line status record of the
moment and clears the overflow indicator. CLASS_GET answers OK with the stored class for numbers 0 to 15 and RANGE
field 1 above. CONST_GET answers OK with the stored value for numbers 1 to 25 and UNKNOWN otherwise. Nothing else
changes but what the transmitter then sends. The data of CLASS_GET is the class number and the five fields of R178
in 7 bytes, that of CONST_GET the constant number and its value in 5 bytes, the value signed in two's complement,
all little-endian (section 12.6); and the number of each constant is the one of R177. -/
def Obligations.InfoRepliesReport : Prop :=
  (∀ (s : State) (f : Frame),
    (s.request 0x03#8 = some f → f.body.length = 2 →
      exec .jobInfo s =
        match s.entry (fieldAt f.body 0 2) with
        | none => .next (s.setLink (s.link.replied f .noJob 0 [])).transmit
        | some e => .next (s.setLink (s.link.replied f .ok 0 (e.info (s.place e.record.number)))).transmit) ∧
    (s.request 0x04#8 = some f → f.body.length = 0 →
      exec .lineInfo s =
        .next (s.setLink { s.link.replied f .ok 0 s.lineStatus with overflow := false }).transmit) ∧
    (s.request 0x0B#8 = some f → f.body.length = 1 →
      exec .classGet s =
        .next (s.setLink
          (if 15 < fieldAt f.body 0 1 then s.link.replied f .range 1 []
           else s.link.replied f .ok 0
             (bodyOfClass (fieldAt f.body 0 1) (s.store.classes.getD (fieldAt f.body 0 1) PaperClass.default)))).transmit) ∧
    (s.request 0x0D#8 = some f → f.body.length = 1 →
      exec .constGet s =
        match s.store.consts.get (fieldAt f.body 0 1) with
        | none => .next (s.setLink (s.link.replied f .unknown 0 [])).transmit
        | some v => .next (s.setLink (s.link.replied f .ok 0 (constBytes (fieldAt f.body 0 1) v))).transmit)) ∧
    (∀ (n : Nat) (c : PaperClass),
      bodyOfClass n c =
        [byteOf n, byteOf c.draw, byteOf c.pressure, byteOf c.dwell, byteOf (c.dwell / 256), byteOf c.intensity,
          byteOf c.jogLimit]) ∧
    (∀ (n : Nat) (v : Int),
      let w : Nat := (v % 4294967296).toNat
      constBytes n v = [byteOf n, byteOf w, byteOf (w / 256), byteOf (w / 65536), byteOf (w / 16777216)]) ∧
    ∀ c : Consts,
      (List.range' 1 25).map c.get =
          [(c.gmax : Int), c.knife, c.gminStd, c.gminNarrow, c.hmax, c.kc, c.backlash, c.wPos, c.settle, c.ph, c.smin,
            c.parkClearance, c.widthTolerance, c.na, c.res, c.edges.rf1, c.edges.rf2, c.edges.rf3, c.edges.sf1,
            c.edges.sf2, c.transferLimit, c.agingLimit, c.nfSafety, c.nfOperator, c.nfMachine].map some ∧
        ∀ n, n = 0 ∨ 25 < n → c.get n = none

/-- O14. The line status record is 161 bytes, and each field of section 12.6 stands at its offset, little-endian: a
named state by its position in the list of its rule, yes as 1 and no as 0, an absent value as FFh in each of its
bytes (a field wider than a byte: log 20) except where the rule reports 0. The handover holds are 1 when released
(log 38), the target of a reference park is Gmax (log 18), the transfer timer and the waiting times are in tenths of
a second with the remainder discarded (log 40; a waiting time beyond two bytes is a free value, log 21), and the
Infeed motions are those of log 42. The bits of the fault set and of the switch inputs that section 12.6 assigns to
nothing are 0 (log 49). The JOB_INFO data is 8 bytes: number, state, priority, position from 1, bank, lifts
completed, and the final lift count or 0. -/
def Obligations.LineStatusIsLaidOut : Prop :=
  let le2 : Nat → List Byte := fun n => [byteOf n, byteOf (n / 256)]
  let le4 : Nat → List Byte := fun n => le2 n ++ le2 (n / 65536)
  let signed : Int → List Byte := fun v => le4 (v % 4294967296).toNat
  let yes : Bool → List Byte := fun x => [if x then 1 else 0]
  let maybe : Option Nat → List Byte := fun v => match v with | some n => [byteOf n] | none => [0xFF]
  let lift : Option LiftRec → List Byte := fun v =>
    match v with | some l => le2 l.job ++ [byteOf l.lift] ++ le2 l.height | none => [0, 0, 0, 0, 0]
  let waits : Option Nat → Prop → List Byte → Prop := fun w fits bs =>
    match w with | some ms => fits → bs = [1] ++ le2 (ms / 100) | none => bs = [0, 0, 0]
  let bankStates : List BankState := [.empty, .planning, .ready, .inUse]
  let motions : List InfeedMotion := [.clampPile, .invert, .rotateCw, .rotateCcw, .unclamp, .pick, .deposit, .ret]
  let edges : List Edge := [.grip, .tail, .lay, .off]
  let faces : List Face := [.up, .down]
  (∀ s : State,
    let at_ : Nat → Nat → List Byte := fun off size => (s.lineStatus.drop off).take size
    let bank : Bank → List Byte := fun b => [byteOf (bankStates.idxOf b.state)] ++ le2 (b.job.getD 0)
    s.lineStatus.length = 161 ∧
    at_ 0 2 = yes (s.store.cause = .restart) ++ yes s.link.overflow ∧
    at_ 2 2 =
      le2 ([s.faults.eStop, s.faults.hydPressure, s.faults.gaugePosition, s.faults.encoderStall,
        s.faults.referenceFail, s.faults.noStack, s.faults.plateRemoved, s.faults.jogFailed,
        s.faults.transferTimeout, s.faults.pileBad, s.faults.motionTimeout].foldr (fun b n => b.toNat + 2 * n) 0) ∧
    at_ 4 4 =
      yes (s.faults.eStop || s.faults.hydPressure) ++
        yes (s.faults.gaugePosition || s.faults.encoderStall || s.faults.referenceFail || s.faults.noStack ||
          s.faults.plateRemoved || s.faults.transferTimeout) ++
        yes (s.faults.jogFailed || s.faults.transferTimeout) ++ yes (s.faults.pileBad || s.faults.motionTimeout) ∧
    at_ 8 8 = [byteOf s.jobs.length, byteOf s.admission] ++ bank s.bankA ++ bank s.bankB ∧
    at_ 16 3 =
      [byteOf ([RunnerState.idle, .loading, .running, .held, .liftEnd, .clearance].idxOf s.runner.state)] ++
        maybe (s.runner.phase.map fun p =>
          [StepPhase.prepare, .positioning, .awaitStart, .cycle, .takeaway, .parking, .awaitConfirm].idxOf p) ++
        [byteOf s.runner.stepIndex] ∧
    at_ 19 5 =
      (match s.runner.lift with | some l => le2 l.job ++ [byteOf l.lift] | none => [0, 0, 0]) ++ yes s.runner.hold ++
        yes s.runner.firstOff ∧
    at_ 24 10 =
      le2 s.runner.tally.strokes ++ le2 s.runner.tally.recuts ++ le2 s.runner.tally.outputs ++
        le2 s.runner.tally.waste ++ le2 s.runner.tally.limited ∧
    at_ 34 18 =
      (match s.runner.working with
      | some w =>
        [1] ++ le2 w.job ++ [byteOf w.lift, byteOf w.strip] ++ le4 w.along ++ le4 w.across ++ le2 w.height ++
          [byteOf (edges.idxOf w.orient.rear), byteOf (faces.idxOf w.orient.face)] ++ yes w.partialCut
      | none => [0, 0, 0] ++ List.replicate 15 0xFF) ∧
    at_ 52 2 = [byteOf s.runner.aside.length, byteOf ((s.runner.aside.getLast?.map AsideRec.strip).getD 0)] ∧
    at_ 54 4 =
      [byteOf ([AxisState.unreferenced, .referencing, .idle, .moving, .settling, .paused, .faulted].idxOf
          s.gauge.state)] ++
        maybe (s.gauge.phase.map fun p => [MovePhase.search, .overshoot, .approach].idxOf p) ++
        yes (!s.gauge.valid) ++ [byteOf s.gauge.corrective] ∧
    at_ 58 8 = signed s.gauge.position ++ signed ((s.gauge.move.map Move.target).getD 0) ∧
    at_ 66 9 =
      (match s.gauge.last with
      | some m => yes m.limited ++ signed m.target ++ signed m.actual
      | none => List.replicate 9 0) ∧
    at_ 75 4 =
      [byteOf ([CycleState.ready, .waitGrant, .clamping, .dwell, .strokeDown, .strokeUp, .unclamp, .abortReturn,
          .stopped, .returnNeeded].idxOf s.cycle.state)] ++
        maybe (s.cycle.purpose.map fun p => [Purpose.cut, .ret].idxOf p) ++ yes s.cycle.entryPassed ++
        yes s.cycle.counted ∧
    at_ 79 3 =
      le2 s.cycle.lastHeight ++ [byteOf ([Monitor.idle, .one, .engaged, .spent].idxOf s.cycle.monitor)] ∧
    at_ 82 7 =
      [byteOf ([TurnerState.empty, .calling, .turning, .ready, .exhausted, .clearance].idxOf s.infeed.turner)] ++
        le2 (s.infeed.called.getD 0) ++ yes s.infeed.rejected ++ yes s.infeed.pileLost ++
        maybe (s.infeed.turnerMotion.map motions.idxOf) ++ maybe (s.infeed.liftMotion.map motions.idxOf) ∧
    at_ 89 13 =
      (match s.infeed.pile with
      | some p =>
        le2 p.job ++ [byteOf (edges.idxOf p.orient.rear), byteOf (faces.idxOf p.orient.face)] ++ le2 p.height ++
          le2 p.limit ++ [byteOf p.count, byteOf p.picked] ++ le2 p.remaining ++ yes p.exhausted
      | none => List.replicate 13 0) ∧
    at_ 102 6 =
      [byteOf ([LiftState.idle, .picking, .holding, .depositing, .returning, .clearance].idxOf s.infeed.lift)] ++
        lift s.infeed.held ∧
    at_ 108 9 =
      [byteOf ([JoggerState.empty, .receiving, .jogging, .aligned, .handing, .failed, .clearance].idxOf
          s.jogger.state)] ++
        lift s.jogger.lift ++ [byteOf s.jogger.intensity] ++ yes s.jogger.rejogUsed ++ [byteOf s.jogger.pass] ∧
    at_ 117 10 =
      (match s.jogger.lastScan with
      | some c => le2 c.rf1 ++ le2 c.rf2 ++ le2 c.rf3 ++ le2 c.sf1 ++ le2 c.sf2
      | none => List.replicate 10 0) ∧
    at_ 127 4 =
      yes s.joggerHoldReleased ++ yes s.tableHoldReleased ++
        [byteOf ([TransferPhase.none, .push, .timedOut, .ret].idxOf s.jogger.phase),
          byteOf (s.jogger.transferTimer.elapsed / 100)] ∧
    at_ 131 2 =
      [byteOf ([UnitState.unavailable, .free, .held].idxOf s.arbiter.unit)] ++
        maybe (s.arbiter.holder.map fun q => [Requester.cut, .lift, .turn].idxOf q) ∧
    waits s.arbiter.cut (∀ ms, s.arbiter.cut = some ms → ms < 6553600) (at_ 133 3) ∧
    waits s.arbiter.lift (∀ ms, s.arbiter.lift = some ms → ms < 6553600) (at_ 136 3) ∧
    waits s.arbiter.turn (∀ ms, s.arbiter.turn = some ms → ms < 6553600) (at_ 139 3) ∧
    at_ 142 8 =
      le4 (allSwitches.foldr (fun x n => (s.inputs.get x).raw.toNat + 2 * n) 0) ++
        le4 (allSwitches.foldr (fun x n => (s.inputs.get x).filtered.toNat + 2 * n) 0) ∧
    at_ 150 11 =
      le2 s.channels.pileTop ++ le2 s.channels.clampHeight ++ le2 s.channels.knifeHeight ++
        le4 s.channels.widthProbe ++ yes s.store.write.isSome) ∧
    ∀ (e : JobEntry) (place : Nat),
      e.info place =
        le2 e.record.number ++
          [byteOf ([JobState.queued, .planning, .planned, .called, .running, .done, .cancelled, .refused].idxOf
              e.state),
            byteOf e.record.priority, byteOf place] ++
          maybe (e.bank.map fun b => [BankId.a, .b].idxOf b) ++
          [byteOf e.liftsCompleted, byteOf (e.finalCount.getD 0)]

/-- O15. A served HOLD sets the flag and answers OK; nothing else changes. A served RESUME clears the flag and answers
OK. If the flag was set, the Runner is HELD and no first-off inspection is pending, the held step begins in its
first phase with the notices of that phase (R63); or, with no step left, the lift ends with its LIFT notice and
counts for its job (R76); and the OK joins behind. Otherwise only the flag and the link change. What begins touches
at most the Runner, the table, the banks and the link. A served ADMIT of a value 0 to 7 sets the level and answers
OK; a value above 7 is answered RANGE field 1 and the level is unchanged. A QUEUED job is eligible exactly when its
priority is at least the level. -/
def Obligations.HoldResumeAndAdmit : Prop :=
  (∀ (s : State) (f : Frame),
      (s.request 0x05#8 = some f → f.body.length = 0 →
        exec .hold s =
          .next ((s.setRunner { s.runner with hold := true }).setLink (s.link.replied f .ok 0 [])).transmit) ∧
      (s.request 0x06#8 = some f → f.body.length = 0 →
        (s.runner.hold = false ∨ s.runner.state ≠ .held ∨ s.runner.firstOff = true →
          exec .resume s =
            .next ((s.setRunner { s.runner with hold := false }).setLink (s.link.replied f .ok 0 [])).finish) ∧
        (s.runner.hold = true → s.runner.state = .held → s.runner.firstOff = false →
          let base : State :=
            (s.setRunner { s.runner with hold := false }).setLink { s.link with requests := s.link.requests.tail }
          ∃ v : State,
            exec .resume s =
                .next (v.setLink { v.link with replies := v.link.replies ++ [⟨f.kind, f.tag, .ok, 0, []⟩] }).finish ∧
              SameBut [.link, .jobs, .bankA, .bankB, .runner] s v ∧ v.runner.hold = false ∧
              v.link.requests = s.link.requests.tail ∧ v.link.replies = s.link.replies ∧
              (s.runner.lastDone = false →
                v.runner.state = .running ∧ v.runner.stepIndex = s.runner.stepIndex ∧ StepBegins base v) ∧
              (∀ l, s.runner.lift = some l → s.runner.lastDone = true → LiftEnds base v l)))) ∧
    (∀ (s : State) (f : Frame), s.request 0x07#8 = some f → f.body.length = 1 →
      exec .admitLevel s =
        if fieldAt f.body 0 1 ≤ 7 then
          .next ((s.setAdmission (fieldAt f.body 0 1)).setLink (s.link.replied f .ok 0 [])).finish
        else .next (s.setLink (s.link.replied f .range 1 [])).finish) ∧
    ∀ (s : State) (e : JobEntry), s.eligible e = true ↔ e.state = .queued ∧ s.admission ≤ e.record.priority

/-- O16. A served CLEAR, and each RESET_BTN, removes every latched fault but ESTOP while E_STOP is open, HYD_PRESSURE
while HYD_READY is inactive, and TRANSFER_TIMEOUT while neither LOAD_IN_PLACE nor PUSHER_HOME is active. If a fault
has left, one FAULT notice with the set that results is queued; if none has, there is none. CLEAR is answered OK
either way. Besides the fault set and the link, only the readings that the command brings (KNIFE_TOP, CLAMP_TOP, the
pile-top channel, and the button itself) change before the part settles. What the faults then let go are reactions
of the part (log 6), before any move that the Runner asks: a FAULTED axis goes to IDLE with its reference VALID and
to UNREFERENCED without, exactly when none of its three faults is left; a STOPPED cycle, when no stop is left, ends
with knife and clamp at the top, its step going on by its outcome, and otherwise goes to RETURN_NEEDED with all it
had. -/
def Obligations.ClearRemovesClearedFaults : Prop :=
  (∀ (s : State) (v : FieldView) (left : FaultSet),
    left =
      { FaultSet.none with
        eStop := s.faults.eStop && s.on .eStop
        hydPressure := s.faults.hydPressure && !s.on .hydReady
        transferTimeout := s.faults.transferTimeout && !s.on .loadInPlace && !s.on .pusherHome } →
    (∀ f, s.request 0x08#8 = some f → f.body.length = 0 →
      ∃ u : State, exec (.clear v) s = .next u.finish ∧ SameBut [.link, .inputs, .channels, .faults] s u ∧
        u.faults = left ∧
        u.link = (if left = s.faults then s.link else s.link.offer (.fault left)).replied f .ok 0 [] ∧
        u.channels = { s.channels with pileTop := v.pileTop } ∧ u.on .knifeTop = v.knifeTop ∧ u.on .clampTop = v.clampTop ∧
        ∀ x, x ≠ .knifeTop → x ≠ .clampTop → u.on x = s.on x) ∧
    ∃ u : State, exec (.resetBtn v) s = .next u.finish ∧ SameBut [.link, .inputs, .channels, .faults] s u ∧
      u.faults = left ∧ u.link = (if left = s.faults then s.link else s.link.offer (.fault left)) ∧
      u.channels = { s.channels with pileTop := v.pileTop } ∧ u.on .knifeTop = v.knifeTop ∧ u.on .clampTop = v.clampTop ∧
      u.on .resetBtn = true ∧ ∀ x, x ≠ .knifeTop → x ≠ .clampTop → x ≠ .resetBtn → u.on x = s.on x) ∧
    TakenAt 1 axisUnfault ∧ TakenAt 2 cycleUnstop ∧ ∀ s : State,
      (axisUnfault s =
        if s.gauge.state = .faulted ∧ s.faults.gaugePosition = false ∧ s.faults.encoderStall = false ∧
            s.faults.referenceFail = false then
          some (s.setGauge { s.gauge with state := if s.gauge.valid then .idle else .unreferenced })
        else none) ∧
      (s.cycle.state ≠ .stopped ∨ s.stop = true → cycleUnstop s = none) ∧
      (s.cycle.state = .stopped → s.stop = false →
        (s.on .knifeTop = false ∨ s.on .clampTop = false →
          cycleUnstop s = some (s.setCycle { s.cycle with state := .returnNeeded })) ∧
        (s.on .knifeTop = true → s.on .clampTop = true → ∃ u : State, cycleUnstop s = some u ∧ CycleEnds s u))

/-- O17. A served REFERENCE is answered BUSY, with no other effect, while the axis is REFERENCING, MOVING, SETTLING or
PAUSED, the cycle is not READY, a CUT step is in AWAIT_START, or a STOP-class or guillotine station fault is
latched. Otherwise it is answered OK and a run starts: the reference becomes INVALID and the axis searches rearward
(PAUSED in SEARCH while the curtain is broken) with a fresh search limit of 30 s; with HOME_SWITCH already active
the position is Ph and the reference VALID at once. Only the gauge and the link change. -/
def Obligations.ReferenceRequest : Prop :=
  ∀ (s : State) (f : Frame), s.request 0x09#8 = some f → f.body.length = 0 →
    (s.gauge.inMotion = true ∨ s.cycle.state ≠ .ready ∨ s.runner.inPhase .awaitStart = true ∨ s.stop = true ∨
        s.guillotineHalt = true →
      exec .reference s = .next (s.setLink (s.link.replied f .busy 0 [])).transmit) ∧
    (s.gauge.inMotion = false → s.cycle.state = .ready → s.runner.inPhase .awaitStart = false → s.stop = false →
        s.guillotineHalt = false →
      ∃ u : State, exec .reference s = .next u.transmit ∧ SameBut [.link, .gauge] s u ∧
        u.link = s.link.replied f .ok 0 [] ∧ ReferenceStarts s u.gauge)

/-- O18. A served CLASS_SET is answered RANGE field 1 for a class number above 15, else BUSY while a store write is in
flight, else RANGE with the first of fields 2 to 6 out of range; a refused one changes nothing else. Otherwise the
write of the whole record is in flight, to be answered at its completion, and nothing else changes: no reply joins
yet. The service key and RUNNING jobs do not matter to it: no condition on them stands here. A served CONST_SET is
answered UNKNOWN for a number outside 1 to 25, else PROTECTED while SERVICE_KEY is inactive, else BUSY while a job
is RUNNING or a write is in flight, else RANGE field 2 for a value outside its range or one that breaks a consistent
pair. Otherwise the write is in flight and no reply joins yet. The reading of SERVICE_KEY is the command's own; no
constant changes before the write completes. That a write's time runs to exactly 100 ms is the model's choice inside
the bound of R181 (log 24). -/
def Obligations.StoreWritesAreChecked : Prop :=
  (∀ (s : State) (f : Frame), s.request 0x0A#8 = some f → f.body.length = 7 →
      exec .classSet s =
        if 15 < fieldAt f.body 0 1 then .next (s.setLink (s.link.replied f .range 1 [])).transmit
        else if s.store.write ≠ none then .next (s.setLink (s.link.replied f .busy 0 [])).transmit
        else if 40 < fieldAt f.body 1 1 then .next (s.setLink (s.link.replied f .range 2 [])).transmit
        else if fieldAt f.body 2 1 < 1 ∨ 8 < fieldAt f.body 2 1 then
          .next (s.setLink (s.link.replied f .range 3 [])).transmit
        else if 2000 < fieldAt f.body 3 2 then .next (s.setLink (s.link.replied f .range 4 [])).transmit
        else if fieldAt f.body 5 1 < 1 ∨ 4 < fieldAt f.body 5 1 then
          .next (s.setLink (s.link.replied f .range 5 [])).transmit
        else if fieldAt f.body 6 1 < 1 ∨ 60 < fieldAt f.body 6 1 then
          .next (s.setLink (s.link.replied f .range 6 [])).transmit
        else
          .next
            ((s.setLink { s.link with requests := s.link.requests.tail }).setStore
              { s.store with
                write :=
                  some
                    ⟨.cls (fieldAt f.body 0 1)
                        ⟨fieldAt f.body 1 1, fieldAt f.body 2 1, fieldAt f.body 3 2, fieldAt f.body 5 1, fieldAt f.body 6 1⟩,
                      f.kind, f.tag, ⟨true, 0, 100⟩⟩ }).transmit) ∧
    (∀ (s : State) (f : Frame) (key : Bool), s.request 0x0C#8 = some f → f.body.length = 5 →
      ∃ u : State, exec (.constSet key) s = .next u.transmit ∧ SameBut [.link, .inputs, .store] s u ∧
        u.on .serviceKey = key ∧ (∀ x, x ≠ .serviceKey → u.on x = s.on x) ∧
        u.store.consts = s.store.consts ∧ u.store.classes = s.store.classes ∧ u.store.cause = s.store.cause ∧
        (isConst (fieldAt f.body 0 1) = false → u.store = s.store ∧ u.link = s.link.replied f .unknown 0 []) ∧
        (isConst (fieldAt f.body 0 1) = true → key = false →
          u.store = s.store ∧ u.link = s.link.replied f .protected_ 0 []) ∧
        (isConst (fieldAt f.body 0 1) = true → key = true → (s.jobRunning = true ∨ s.store.write.isSome = true) →
          u.store = s.store ∧ u.link = s.link.replied f .busy 0 []) ∧
        (isConst (fieldAt f.body 0 1) = true → key = true → s.jobRunning = false → s.store.write = none →
          (constValueOk s.store.consts (fieldAt f.body 0 1) (signedAt f.body 1) = false →
            u.store = s.store ∧ u.link = s.link.replied f .range 2 []) ∧
          (constValueOk s.store.consts (fieldAt f.body 0 1) (signedAt f.body 1) = true →
            u.store.write =
                some ⟨.const (fieldAt f.body 0 1) (signedAt f.body 1), f.kind, f.tag, ⟨true, 0, 100⟩⟩ ∧
              u.link = { s.link with requests := s.link.requests.tail })))

/-- O19. At the completion of a write in flight the constant or the paper class holds the new value, every other one its
old value, the store is IDLE, and the OK reply to the request joins the reply list, followed by the deferred OK of a
RESTART served meanwhile. Nothing else changes but what the transmitter then sends. -/
def Obligations.StoreWriteCompletes : Prop :=
  ∀ (s : State) (w : StoreWrite), s.store.write = some w →
    ∃ u : State, exec .storeWriteComplete s = .next u.transmit ∧ SameBut [.link, .store] s u ∧
      u.store =
        { s.store with
          consts := (match w.target with | .const n v => s.store.consts.put n v | .cls _ _ => s.store.consts)
          classes := (match w.target with | .const _ _ => s.store.classes | .cls n c => s.store.classes.set n c)
          write := none } ∧
      u.link =
        (match s.link.restart with
        | some tag =>
          if s.link.restartDeferred then
            { s.link with
              replies := s.link.replies ++ [⟨w.kind, w.tag, .ok, 0, []⟩, ⟨0x10#8, tag, .ok, 0, []⟩]
              restartDeferred := false }
          else { s.link with replies := s.link.replies ++ [⟨w.kind, w.tag, .ok, 0, []⟩] }
        | none => { s.link with replies := s.link.replies ++ [⟨w.kind, w.tag, .ok, 0, []⟩] })

/-- O20. A served NOTICE_MODE of a known class and mode gives the class that mode, armed, and answers OK; an unknown
class is answered RANGE field 1, an unknown mode RANGE field 2. A served REARM of a known class arms it in its mode
and answers OK; an unknown class is answered RANGE field 1. A served RESTART marks itself served, so that no further
request is served, and answers OK: at once, or after the completion of the write in flight (deferred). Nothing else
changes but what the transmitter then sends. -/
def Obligations.NoticeModeRearmAndRestart : Prop :=
  (∀ (s : State) (f : Frame),
      (s.request 0x0E#8 = some f → f.body.length = 2 →
        (4 < fieldAt f.body 0 1 → exec .noticeMode s = .next (s.setLink (s.link.replied f .range 1 [])).transmit) ∧
        (fieldAt f.body 0 1 ≤ 4 → 2 < fieldAt f.body 1 1 →
          exec .noticeMode s = .next (s.setLink (s.link.replied f .range 2 [])).transmit) ∧
        (∀ c m, classOfCode (fieldAt f.body 0 1) = some c → modeOfCode (fieldAt f.body 1 1) = some m →
          exec .noticeMode s =
            .next (s.setLink { s.link.replied f .ok 0 [] with modes := s.link.modes.put c ⟨m, true⟩ }).transmit)) ∧
      (s.request 0x0F#8 = some f → f.body.length = 1 →
        (4 < fieldAt f.body 0 1 → exec .rearm s = .next (s.setLink (s.link.replied f .range 1 [])).transmit) ∧
        (∀ c, classOfCode (fieldAt f.body 0 1) = some c →
          exec .rearm s =
            .next
              (s.setLink
                { s.link.replied f .ok 0 [] with
                  modes := s.link.modes.put c ⟨(s.link.modes.get c).mode, true⟩ }).transmit))) ∧
    (∀ (s : State) (f : Frame), s.request 0x10#8 = some f → f.body.length = 0 →
      (s.store.write = none →
        exec .restart s = .next (s.setLink { s.link.replied f .ok 0 [] with restart := some f.tag }).transmit) ∧
      (s.store.write ≠ none →
        exec .restart s =
          .next
            (s.setLink
              { s.link with requests := s.link.requests.tail, restart := some f.tag, restartDeferred := true }).transmit) ∧
      ∀ t : State, t.link.restart ≠ none → t.link.serving = false)

/-- O21. TURN_CW makes the old left edge the rear, TURN_CCW the old right edge, TURN_180 the old front edge; none
changes the face. TURN_180 makes the old rear edge the front and exchanges left and right. INVERT toggles the face,
keeps the rear and front edges and exchanges left and right. TURN_CW and TURN_CCW undo each other, two TURN_180s and
two INVERTs give back the record, and two TURN_CWs are one TURN_180. -/
def Obligations.TurnsAndInversion : Prop :=
  ∀ o : Orientation,
    ((o.turn .cw).rear = o.left ∧ (o.turn .cw).face = o.face) ∧
    ((o.turn .ccw).rear = o.right ∧ (o.turn .ccw).face = o.face) ∧
    ((o.turn .half).rear = o.front ∧ (o.turn .half).face = o.face ∧ (o.turn .half).front = o.rear ∧
      (o.turn .half).left = o.right ∧ (o.turn .half).right = o.left) ∧
    (o.invert.face ≠ o.face ∧ o.invert.rear = o.rear ∧ o.invert.front = o.front ∧ o.invert.left = o.right ∧
      o.invert.right = o.left) ∧
    (o.turn .cw).turn .ccw = o ∧ (o.turn .half).turn .half = o ∧ o.invert.invert = o ∧
    (o.turn .cw).turn .cw = o.turn .half

/-- O22. For every job with at least one row and one column and a positive Gmin_std, if the planning operation succeeds,
then its step count, its CUT steps, its OUTPUT and its WASTE take-aways and the peak Aside depth are those of the
closed forms of R56; in particular the outputs are nr x nc. -/
def Obligations.PlanTotals : Prop :=
  ∀ (r : JobRecord) (k : PlanConsts) (steps : List CutStep), 1 ≤ r.nr → 1 ≤ r.nc → 0 < k.gminStd →
    planResult r k = .done steps →
    let one (x : Bool) : Nat := if x then 1 else 0
    let tail := one (decide (0 < trimTail r))
    let grip := one (decide (0 < r.trimGrip))
    let gl := one (decide (0 < r.gl))
    let off := one (decide (0 < trimOff r))
    let lay := one (decide (0 < r.trimLay))
    let gw := one (decide (0 < r.gw))
    let peak := r.nr - 1 + one (decide (k.gminStd ≤ r.trimGrip))
    let strip :=
      (if phaseBCuts r then 1 + off + (r.nc - 1) * (1 + gw) else 0) +
        (if r.trimLay = 0 then 1 else if k.gminStd ≤ r.trimLay then 2 else 3)
    steps.length = tail + (r.nr - 1) * (1 + gl) + 2 * grip + r.nr * strip + peak ∧
      countCuts steps = tail + (r.nr - 1) * (1 + gl) + grip + r.nr * (off + (r.nc - 1) * (1 + gw) + lay) ∧
      countOutputs steps = r.nr * r.nc ∧
      countWaste steps = tail + (r.nr - 1) * gl + grip + r.nr * (off + (r.nc - 1) * gw + lay) ∧
      (expand r k).peak = peak

/-- O23. For every job with at least one row and one column, if the planning operation succeeds, its list has at most
255 steps, each at its own index; every CUT has its N in Gmin_narrow..Gmax, carries the plate-required mark exactly
when N is below Gmin_std, and has N as its expected along; every TAKE has expected dimensions 0. -/
def Obligations.PlanStepsAreSound : Prop :=
  ∀ (r : JobRecord) (k : PlanConsts) (steps : List CutStep), 1 ≤ r.nr → 1 ≤ r.nc → planResult r k = .done steps →
    steps.length ≤ 255 ∧
      ∀ (i : Nat) (t : CutStep), steps[i]? = some t →
        t.index = i ∧
          match t.action with
          | .cut n _ plate => k.gminNarrow ≤ n ∧ n ≤ k.gmax ∧ (plate = true ↔ n < k.gminStd) ∧ t.expAlong = n
          | .take _ => t.expAlong = 0 ∧ t.expAcross = 0
          | .turn _ => True
          | .recall => True

/-- O24. With a planning operation in progress for a job of the table: where the layout can be cut, PLAN_DONE makes the
job PLANNED in its place, its bank READY with the plan, the planner IDLE, and queues the JOB notice PLANNED; where
it cannot, PLAN_REFUSED removes the entry, the bank becomes EMPTY, the planner IDLE, and the JOB notice REFUSED with
the reason is queued. The other bank is untouched and nothing else changes before the part settles. A withdrawal
leaves the planner without an operation, and with none neither completion does anything before the part settles. -/
def Obligations.PlanningCompletions : Prop :=
  ∀ (s : State),
    (∀ (op : PlanOp) (e : JobEntry) (steps : List CutStep), s.planner = some op → s.entry op.job = some e →
      planResult e.record op.consts = .done steps →
      ∃ u : State, exec .planDone s = .next u.finish ∧ SameBut [.link, .jobs, .planner, .bankA, .bankB] s u ∧
        u.planner = none ∧
        u.bank op.bank =
          { s.bank op.bank with state := .ready, stepCount := steps.length, steps := steps } ∧
        (∀ other, other ≠ op.bank → u.bank other = s.bank other) ∧
        u.jobs = (s.jobs.map fun x => if x.record.number = op.job then { x with state := .planned } else x) ∧
        u.link = s.link.offer (.job op.job .planned .none)) ∧
    (∀ (op : PlanOp) (e : JobEntry) (why : JobReason), s.planner = some op → s.entry op.job = some e →
      planResult e.record op.consts = .refused why →
      ∃ u : State, exec .planRefused s = .next u.finish ∧ SameBut [.link, .jobs, .planner, .bankA, .bankB] s u ∧
        u.planner = none ∧ u.bank op.bank = ⟨none, .empty, 0, [], none⟩ ∧ (∀ other, other ≠ op.bank → u.bank other = s.bank other) ∧
        u.jobs = (s.jobs.filter fun x => x.record.number ≠ op.job) ∧
        u.link = s.link.offer (.job op.job .refused why)) ∧
    (s.planner = none → exec .planDone s = .next s.finish ∧ exec .planRefused s = .next s.finish)

/-- O25. A planning start is a reaction of the part (the model's form, log 6): a settled part has none due, and one that
is due with no reaction before it is carried out as the part settles. It is due exactly when the planner is IDLE, a
bank is EMPTY and an eligible QUEUED job stands in the table. The job taken is eligible, none of higher priority is,
and none of its priority stands before it. The bank is A if A is EMPTY, else B. The job goes to PLANNING with that
bank, the bank to PLANNING with the job's number and its paper class, the five constants are copied, and the JOB
notice PLANNING is queued. That the operation's time runs to exactly 50 ms is the model's choice inside the bound of
R41 (log 24). -/
def Obligations.PlanningStartsWithTheBestJob : Prop :=
  TakenAt 19 planStart ∧ ∀ s : State,
    (planStart s = none ↔
      s.planner ≠ none ∨ (s.bankA.state ≠ .empty ∧ s.bankB.state ≠ .empty) ∨ ∀ e ∈ s.jobs, s.eligible e = false) ∧
    ∀ t : State, planStart s = some t →
      ∃ (e : JobEntry) (i : Nat), s.jobs[i]? = some e ∧ s.eligible e = true ∧
        (∀ (j : Nat) (x : JobEntry), s.jobs[j]? = some x → s.eligible x = true →
          x.record.priority < e.record.priority ∨ (x.record.priority = e.record.priority ∧ i ≤ j)) ∧
        SameBut [.link, .jobs, .planner, .bankA, .bankB] s t ∧
        t.planner =
          some ⟨e.record.number, if s.bankA.state = .empty then .a else .b,
            ⟨s.store.consts.smin, s.store.consts.gminStd, s.store.consts.gminNarrow, s.store.consts.gmax,
              s.store.consts.knife⟩, ⟨true, 0, 50⟩⟩ ∧
        (if s.bankA.state = .empty then
          t.bankA = ⟨some e.record.number, .planning, 0, [], some (s.classOf e.record.paperClass)⟩ ∧ t.bankB = s.bankB
        else
          t.bankB = ⟨some e.record.number, .planning, 0, [], some (s.classOf e.record.paperClass)⟩ ∧ t.bankA = s.bankA) ∧
        (t.jobs =
          s.jobs.map fun x =>
            if x.record.number = e.record.number then
              { x with state := .planning, bank := some (if s.bankA.state = .empty then .a else .b) }
            else x) ∧
        t.link = s.link.offer (.job e.record.number .planning .none)

/-- O26. Displacement and the call are reactions of the part (log 6). A displacement is due exactly when no bank is
EMPTY and an eligible QUEUED job has a higher priority than some PLANNED or CALLED job. The job displaced is of
lowest priority among those, the latest accepted of that priority: it goes to QUEUED in its place without a bank,
its bank is EMPTY, its call, if it was CALLED, is withdrawn (a rejected-pile mark stays: log 47), and the JOB notice
QUEUED, DISPLACED is queued. A call is due exactly when the Turner is EMPTY and a job is PLANNED. The job called is
of highest priority, the earliest accepted of that priority: the Turner is CALLING it, it is CALLED, and the JOB
notice CALLED and then the WAIT notice PILE are queued (their order is the model's choice, log 28). A final lift
count set for a job, and a lift end with its LIFT notice, make the job DONE exactly where its final lift count is
then equal to its lifts completed. -/
def Obligations.JobsAreDisplacedCalledAndDone : Prop :=
  TakenAt 18 displacement ∧ TakenAt 20 turnerCall ∧
    ∀ s : State,
      let gives (e : JobEntry) : Prop := e.state = .planned ∨ e.state = .called
      (displacement s = none ↔
        s.bankA.state = .empty ∨ s.bankB.state = .empty ∨
          ∀ w ∈ s.jobs, gives w → ∀ e ∈ s.jobs, s.eligible e = true → e.record.priority ≤ w.record.priority) ∧
      (∀ t : State, displacement s = some t →
        ∃ (w : JobEntry) (i : Nat), s.jobs[i]? = some w ∧ gives w ∧
          (∀ (j : Nat) (x : JobEntry), s.jobs[j]? = some x → gives x →
            w.record.priority < x.record.priority ∨ (w.record.priority = x.record.priority ∧ j ≤ i)) ∧
          SameBut [.link, .jobs, .bankA, .bankB, .infeed] s t ∧
          t.jobs =
            (s.jobs.map fun x =>
              if x.record.number = w.record.number then { x with state := .queued, bank := none } else x) ∧
          t.bankA = (if w.bank = some .a then Bank.cleared else s.bankA) ∧
          t.bankB = (if w.bank = some .b then Bank.cleared else s.bankB) ∧
          t.infeed = (if w.state = .called then { s.infeed with turner := .empty, called := none } else s.infeed) ∧
          t.link = s.link.offer (.job w.record.number .queued .displaced)) ∧
      (turnerCall s = none ↔ s.infeed.turner ≠ .empty ∨ ∀ e ∈ s.jobs, e.state ≠ .planned) ∧
      (∀ t : State, turnerCall s = some t →
        ∃ (e : JobEntry) (i : Nat), s.jobs[i]? = some e ∧ e.state = .planned ∧
          (∀ (j : Nat) (x : JobEntry), s.jobs[j]? = some x → x.state = .planned →
            x.record.priority < e.record.priority ∨ (x.record.priority = e.record.priority ∧ i ≤ j)) ∧
          SameBut [.link, .jobs, .infeed] s t ∧
          t.infeed = { s.infeed with turner := .calling, called := some e.record.number } ∧
          t.jobs =
            (s.jobs.map fun x => if x.record.number = e.record.number then { x with state := .called } else x) ∧
          t.link =
            (s.link.offer (.job e.record.number .called .none)).offer (.wait (.pile e.record.number))) ∧
      (∀ n k : Nat, SameBut [.link, .jobs, .bankA, .bankB] s (s.setFinal n k) ∧
        FiguresTaken s (s.setFinal n k) n fun e => { e with finalCount := some k }) ∧
      ∀ l : CurrentLift, s.runner.lift = some l → LiftEnds s s.endLift l

/-- O27. For a draw coefficient k, a compensation height H and a greatest cut height Hmax, the offset is (k x min(H,
Hmax) + 500) div 1000; with k at most 40 and Hmax at most 2,000 it lies in 0..80. A height above Hmax counts as Hmax
in this computation. At a CUT move's start the target is N plus the offset by the constants of the moment plus Kc,
bounded to Gmin_eff..Gmax, and nothing but the gauge changes, so the Working Stack keeps its measured height. -/
def Obligations.DrawOffsetRoundsHalfUp : Prop :=
  ∀ (s : State) (c : Consts) (k h : Nat),
    drawOffset c k h = (k * min h c.hmax + 500) / 1000 ∧ (k ≤ 40 → c.hmax ≤ 2000 → drawOffset c k h ≤ 80) ∧
      (c.hmax ≤ h → drawOffset c k h = drawOffset c k c.hmax) ∧
      ∀ n : Nat,
        let t : Int := (n : Int) + ((k * min h s.store.consts.hmax + 500) / 1000 : Nat) + s.store.consts.kc
        let low : Nat := if s.on .plateFitted then s.store.consts.gminNarrow else s.store.consts.gminStd
        SameBut [.gauge] s (s.startMove (.cut n h k)) ∧
          (s.startMove (.cut n h k)).gauge.move.map Move.target =
            some (if (s.store.consts.gmax : Int) < t then (s.store.consts.gmax : Int) else if t < low then low else t)

/-- O28. A move started from position p takes its target from the constants and the plate of that moment. For a CUT the
target is N + D + Kc, or Gmax where that is above Gmax, or Gmin_eff where it is below Gmin_eff, and it is LIMITED
exactly in those two cases. For a PARK it is the asked position, or Gmax or Gmin_eff by the same bounds, never
LIMITED. Where Gmin_eff is at most Gmax, the target lies between them. With the target behind p the axis travels
OVERSHOOT to the smaller of T + B and Gmax; with the target in front of p, APPROACH; with the target at p it settles
at once, also while the curtain is broken (log 17). It starts in PAUSED where it travels while the curtain is
broken. Gmin_std is taken for the plate's rule too (log 19). Only the gauge changes. The ask of a step's move is a
reaction of the part (log 6): a RUNNING Runner asks it once, not during a stop, a guillotine station fault or
FAULTED. A CUT in POSITIONING asks its N with the Working Stack's compensation height and the draw coefficient of
the snapshot; a TURN or a RECALL in PARKING asks the park to the smaller of expected along plus park clearance and
Gmax. In any other phase nothing is asked. -/
def Obligations.MoveTargets : Prop :=
  (∀ (s : State) (req : MoveReq),
      let c : Consts := s.store.consts
      let low : Int := if s.on .plateFitted then c.gminNarrow else c.gminStd
      let g : Gauge := (s.startMove req).gauge
      ∃ m : Move, g.move = some m ∧ SameBut [.gauge] s (s.startMove req) ∧ g.position = s.gauge.position ∧
        g.valid = s.gauge.valid ∧ g.gminStd = c.gminStd ∧ g.corrective = 0 ∧ g.pendingMove = none ∧
        (m.req, m.backlash, m.gmax, m.wPos, m.settle) = (some req, c.backlash, c.gmax, c.wPos, c.settle) ∧
        (low ≤ c.gmax → low ≤ m.target ∧ m.target ≤ c.gmax) ∧
        (match req with
          | .cut n h k =>
            let t : Int := (n : Int) + ((k * min h c.hmax + 500) / 1000 : Nat) + c.kc
            m.target = (if (c.gmax : Int) < t then (c.gmax : Int) else if t < low then low else t) ∧
              (m.limited = true ↔ (c.gmax : Int) < t ∨ t < low)
          | .park pos =>
            m.target = (if (c.gmax : Int) < pos then (c.gmax : Int) else if (pos : Int) < low then low else pos) ∧
              m.limited = false) ∧
        (s.gauge.position < m.target →
          m.overshoot = some (min (m.target + c.backlash) c.gmax) ∧ g.phase = some .overshoot) ∧
        (m.target < s.gauge.position → m.overshoot = none ∧ g.phase = some .approach) ∧
        (m.target ≠ s.gauge.position →
          g.state = if s.on .curtain || s.gauge.state = .paused then .paused else .moving) ∧
        (m.target = s.gauge.position →
          m.overshoot = none ∧ g.state = .settling ∧ g.settleTimer = ⟨true, 0, c.settle⟩)) ∧
    TakenAt 16 askStep ∧ ∀ s : State,
      (s.runner.state ≠ .running ∨ s.runner.asked ≠ none ∨ s.stop = true ∨ s.guillotineHalt = true ∨
          s.gauge.state = .faulted ∨ (s.runner.phase ≠ some .positioning ∧ s.runner.phase ≠ some .parking) →
        askStep s = none) ∧
      ∀ (t : CutStep) (l : CurrentLift), s.runner.state = .running → s.runner.asked = none → s.stop = false →
        s.guillotineHalt = false → s.gauge.state ≠ .faulted → s.theStep = some t → s.runner.lift = some l →
        let asks (req : MoveReq) : Prop :=
          ∃ u : State, askStep s = some u ∧ SameBut [.runner, .gauge] s u ∧
            u.runner = { s.runner with asked := some .step } ∧ MoveAsked s u req
        (∀ (n : Nat) (d : Disposition) (plate : Bool) (w : StackRec) (p : PaperClass),
          s.runner.phase = some .positioning → t.action = .cut n d plate → s.runner.working = some w →
          (s.bank l.bank).snapshot = some p → asks (.cut n w.height p.draw)) ∧
        (s.runner.phase = some .parking → t.action.kind = .turn ∨ t.action.kind = .recall →
          asks (.park (min (t.expAlong + s.store.consts.parkClearance) s.store.consts.gmax)))

/-- O29. For a pile of 50 to 16,000 tenths, a lift height or a fixed count in range and Hmax of at least 400 tenths: Hd
is Hmax for a fixed count and the smaller of the lift height and Hmax otherwise; the count is the fixed count,
raised to ceil(P / Hd) where the pile is taller than n x Hd, or ceil(P / Hd), and at most 64; base and r are P div n
and P mod n. The first r lifts of base + 1 and the rest of base add up to P, and no lift is above Hmax. The next
lift aimed for is base + 1 while r is above 0, else base. -/
def Obligations.PileDivision : Prop :=
  ∀ (r : JobRecord) (hmax p : Nat), 400 ≤ hmax → 50 ≤ p → p ≤ 16000 → 100 ≤ r.liftHeight →
    (∀ n, r.fixedCount = some n → 1 ≤ n ∧ n ≤ 64) →
    let q := pileAtIntake hmax r p
    let ceil (x y : Nat) : Nat := if x % y = 0 then x / y else x / y + 1
    q.limit = (if r.fixedCount.isSome then hmax else min r.liftHeight hmax) ∧
      q.count =
        min 64
          (match r.fixedCount with
          | some n => if n * hmax < p then ceil p hmax else n
          | none => ceil p (min r.liftHeight hmax)) ∧
      q.height = p ∧ q.remaining = p ∧ q.picked = 0 ∧ q.base = p / q.count ∧ q.extra = p % q.count ∧
      q.extra * (q.base + 1) + (q.count - q.extra) * q.base = p ∧
      (if 0 < q.extra then q.base + 1 else q.base) ≤ hmax ∧ q.aim = (if 0 < q.extra then q.base + 1 else q.base)

/-- O30. With no request pending there is no choice. If a request has waited at least the aging limit, the choice is an
aged request that has waited longest, the first of CUT, LIFT, TURN among equals. If none is aged, it is the first of
CUT, LIFT, TURN that is pending. The grant takes the request out of the pending set, makes the unit HELD by it, and
leaves the other requests and their times. A grant is a reaction of the part (log 6), due exactly when the unit is
FREE, no stop is in force and a request is pending. It reaches the requester in the same moment: a CUT goes to
CLAMPING and its step from AWAIT_START to CYCLE; a RETURN to STROKE_UP with KNIFE_TOP inactive, to UNCLAMP with
KNIFE_TOP active and CLAMP_TOP inactive, and with both active it ends at once as any cycle does, with the unit given
back (log 12); the Turner's and the Lift unit's motions start their 20 s timers, a PICK with its pick height, a
DEPOSIT with an EMPTY Jogger going to RECEIVING. At the hydraulic unit the valves and the pressure setting of a
requester act only while it holds the grant (R157): those of the cycle then are the ones its state commands (R104;
the pressure in UNCLAMP is log 46, KNIFE_TOP in ABORT_RETURN log 51), those of the Turner and of the Lift unit the
motion each has in progress; without the grant they are off whatever the requester commands. -/
def Obligations.GrantsAreChosenAndTaken : Prop :=
  (∀ (a : Arbiter) (limit : Nat),
      let rank (q : Requester) : Nat := match q with | .cut => 0 | .lift => 1 | .turn => 2
      (a.choose limit = none ↔ ∀ q, a.waiting q = none) ∧
      (∀ q, a.choose limit = some q →
        ∃ w, a.waiting q = some w ∧
          ((∃ x v, a.waiting x = some v ∧ limit ≤ v) →
            limit ≤ w ∧ ∀ x v, a.waiting x = some v → v < w ∨ (v = w ∧ rank q ≤ rank x)) ∧
          ((∀ x v, a.waiting x = some v → v < limit) → ∀ x v, a.waiting x = some v → rank q ≤ rank x)) ∧
      ∀ q, (a.grant q).unit = .held ∧ (a.grant q).holder = some q ∧ (a.grant q).waiting q = none ∧
        ∀ x, x ≠ q → (a.grant q).waiting x = a.waiting x) ∧
    TakenAt 0 hydGrant ∧
    ∀ s : State,
      (hydGrant s = none ↔ s.arbiter.unit ≠ .free ∨ s.stop = true ∨ ∀ q, s.arbiter.waiting q = none) ∧
      (∀ q : Requester, s.arbiter.unit = .free → s.stop = false →
        s.arbiter.choose (s.store.consts.agingLimit * 100) = some q →
        let t : State := s.setArbiter (s.arbiter.grant q)
        (q = .cut →
          (s.cycle.purpose = some .cut →
            hydGrant s =
              some
                ((t.setCycle { s.cycle with state := .clamping }).setRunner
                  (if s.runner.inPhase .awaitStart then { s.runner with phase := some .cycle } else s.runner))) ∧
          (s.cycle.purpose = some .ret → s.on .knifeTop = false →
            hydGrant s = some (t.setCycle { s.cycle with state := .strokeUp })) ∧
          (s.cycle.purpose = some .ret → s.on .knifeTop = true → s.on .clampTop = false →
            hydGrant s = some (t.setCycle { s.cycle with state := .unclamp })) ∧
          (s.cycle.purpose = some .ret → s.on .knifeTop = true → s.on .clampTop = true →
            ∃ u : State, hydGrant s = some u ∧ CycleEnds t u ∧
              u.arbiter = { s.arbiter with unit := freeUnit (s.on .hydReady), holder := none, cut := none })) ∧
        (q = .turn →
          hydGrant s = some (t.setInfeed { s.infeed with turnerTimer := ⟨true, 0, 20000⟩ })) ∧
        (q = .lift →
          (∀ p, s.infeed.lift = .picking → s.infeed.pile = some p →
            hydGrant s =
              some
                (t.setInfeed
                  { s.infeed with
                    liftTimer := ⟨true, 0, 20000⟩
                    pickHeight := some (p.remaining - if 0 < p.extra then p.base + 1 else p.base) })) ∧
          (s.infeed.lift = .depositing → s.jogger.state = .empty →
            hydGrant s =
              some
                ((t.setInfeed { s.infeed with liftTimer := ⟨true, 0, 20000⟩ }).setJogger
                  { s.jogger with state := .receiving, receivingFor := s.infeed.held.map LiftRec.job })) ∧
          (s.infeed.lift = .returning ∨ s.infeed.lift = .clearance →
            hydGrant s = some (t.setInfeed { s.infeed with liftTimer := ⟨true, 0, 20000⟩ })))) ∧
        s.cycleOutputs = (if s.arbiter.holder = some .cut then s.cycleCommand else ⟨.off, .off, none⟩) ∧
        s.turnerValves = (if s.arbiter.holder = some .turn then s.infeed.turnerMotion else none) ∧
        s.liftValves = (if s.arbiter.holder = some .lift then s.infeed.liftMotion else none) ∧
        s.cycleCommand =
          (match s.cycle.state with
          | .clamping => ⟨.down, .off, some s.cycle.pressureStep⟩
          | .dwell => ⟨.down, .off, some s.cycle.pressureStep⟩
          | .strokeDown => ⟨.down, .down, some s.cycle.pressureStep⟩
          | .strokeUp => ⟨.down, .up, some s.cycle.pressureStep⟩
          | .unclamp => ⟨.up, .off, none⟩
          | .abortReturn => if s.on .knifeTop then ⟨.up, .off, none⟩ else ⟨.down, .up, some s.cycle.pressureStep⟩
          | .ready => ⟨.off, .off, none⟩
          | .waitGrant => ⟨.off, .off, none⟩
          | .stopped => ⟨.off, .off, none⟩
          | .returnNeeded => ⟨.off, .off, none⟩)

/-- O31. With ESTOP not latched, E_STOP_OPEN adds it to the fault set, revokes the grant and drops every request, sends
a moving cycle to STOPPED with its purpose, entry, count and height kept and a cycle in WAIT_GRANT back to its
return state, takes an ENGAGED monitor of either to SPENT, interrupts a gauge motion with position and reference
kept, stops the Infeed's motion timers with the motions still owed (one whose done would change no record is
discarded, log 16), and halts jogging: scan discarded, pass count 0, jog timer stopped. The Runner keeps state, step
index and phase; the move it has asked is void where a motion is interrupted, and a step in CYCLE whose knife has
passed the entry point before the count gets its partial-cut marker. The Jogger keeps its lift, its transfer phase
and its pusher direction, with the transfer timer suspended. Afterwards every output of the part is off: valves,
pressure, gauge travel, pusher, air and vibration. The first notice queued is the FAULT notice, and only a reference
run interrupted adds another (STEP, ABORTED), behind it (R175). With ESTOP latched already, only the input changes.
E_STOP_RELEASED changes only the input: the stop stays. -/
def Obligations.EmergencyStopHaltsTheLine : Prop :=
  ∀ s : State,
    (s.faults.eStop = false →
      ∃ u : State, exec .eStopOpen s = .next u.transmit ∧
        SameBut [.link, .runner, .gauge, .cycle, .infeed, .jogger, .arbiter, .inputs, .faults] s u ∧
        u.on .eStop = true ∧ (∀ x, x ≠ .eStop → u.on x = s.on x) ∧ u.stop = true ∧
        StopBegins (s.sense .eStop true) u { s.faults with eStop := true } ∧
        (s.cycle.moving = true →
          u.cycle.state = .stopped ∧ u.cycle.purpose = s.cycle.purpose ∧ u.cycle.entryPassed = s.cycle.entryPassed ∧
            u.cycle.counted = s.cycle.counted ∧ u.cycle.height = s.cycle.height) ∧
        (s.cycle.moving = true ∨ s.cycle.state = .waitGrant → s.cycle.monitor = .engaged → u.cycle.monitor = .spent) ∧
        u.runner.state = s.runner.state ∧ u.runner.stepIndex = s.runner.stepIndex ∧ u.runner.phase = s.runner.phase ∧
        u.jogger.lift = s.jogger.lift ∧ u.jogger.phase = s.jogger.phase ∧ u.jogger.pusher = s.jogger.pusher ∧
        u.transmit.tick.jogger.transferTimer = s.jogger.transferTimer ∧
        u.cycleOutputs = CycleOutputs.off ∧ u.gaugeTravel = false ∧ u.turnerValves = none ∧ u.liftValves = none ∧
        u.pusherOutput = .hold ∧ u.airOutput = false ∧ u.vibrationOutput = 0) ∧
    (s.faults.eStop = true → exec .eStopOpen s = .next (s.sense .eStop true).transmit) ∧
    exec .eStopReleased s = .next (s.sense .eStop false).transmit ∧ (s.sense .eStop false).stop = s.stop

/-- O32. A curtain break sends a REFERENCING or MOVING gauge to PAUSED with its phase, move, position and corrective
count kept, the stall watch off and the search limit at rest; the clear interval of a gauge PAUSED already is void.
It pauses a moving pusher, which keeps its direction, with its clear interval void; nothing else of the Jogger
changes, and with the pusher in HOLD nothing at all. It withdraws a cut waiting for the grant (back in its return
state: READY, no purpose) and aborts a cut in CLAMPING, DWELL or STROKE_DOWN (ABORT_RETURN, still holding the
grant); the monitor of either goes to SPENT if it was ENGAGED. A return, an upward motion and a settling gauge are
not affected. The Runner changes only in the partial-cut marker, set where the knife has passed the entry point.
Afterwards the gauge does not travel and the pusher holds. -/
def Obligations.CurtainBreakStopsMotion : Prop :=
  ∀ s : State,
    ∃ u : State, exec .curtainBroken s = .next u.transmit ∧
      SameBut [.runner, .gauge, .cycle, .jogger, .arbiter, .inputs] s u ∧
      u.on .curtain = true ∧ (∀ x, x ≠ .curtain → u.on x = s.on x) ∧ u.gaugeTravel = false ∧ u.pusherOutput = .hold ∧
      u.gauge =
        (if s.gauge.state = .referencing ∨ s.gauge.state = .moving then
          { s.gauge with
            state := .paused
            stallTimer := Timer.stopped
            searchTimer := { s.gauge.searchTimer with running := false }
            clearTimer := Timer.stopped }
        else if s.gauge.state = .paused then { s.gauge with clearTimer := Timer.stopped }
        else s.gauge) ∧
      u.jogger =
        (if s.jogger.pusher = .hold then s.jogger
        else { s.jogger with paused := true, clearTimer := Timer.stopped }) ∧
      (s.cycle.cutting = true → s.cycle.purpose = some .cut →
        u.cycle = s.cycle.aborted false ∧ u.cycle.state = .abortReturn ∧
          (s.cycle.monitor = .engaged → u.cycle.monitor = .spent) ∧ u.arbiter = s.arbiter ∧
          u.runner = s.runnerMarked) ∧
      (s.cycle.state = .waitGrant → s.cycle.purpose = some .cut →
        u.cycle = s.cycle.withdrawn ∧
          (s.cycle.returnState = .ready → u.cycle.state = .ready ∧ u.cycle.purpose = none) ∧
          (s.cycle.monitor = .engaged → u.cycle.monitor = .spent) ∧ u.arbiter = { s.arbiter with cut := none } ∧
          u.runner = s.runner) ∧
      (s.cycle.purpose ≠ some .cut → u.cycle = s.cycle ∧ u.arbiter = s.arbiter ∧ u.runner = s.runner) ∧
      (s.cycle.cutting = false → s.cycle.state ≠ .waitGrant →
        u.cycle = s.cycle ∧ u.arbiter = s.arbiter ∧ u.runner = s.runner)

/-- O33. CURTAIN_CLEAR starts the clear interval of a PAUSED gauge and of a paused pusher and changes nothing else. When
the gauge's interval has passed, the motion resumes in the phase it kept: SEARCH in REFERENCING with the search
limit running on; OVERSHOOT while the position is forward of the overshoot point, else the approach begins, or the
settling where the position is at T or forward of it; APPROACH while the position is rearward of T; with the
position at T or forward of it the overshoot travel is made again, without a corrective move, or, where the position
is at its overshoot point already (T at Gmax, or B zero), the settling begins. When the pusher's interval has
passed, it goes on in its direction. Nothing else changes. -/
def Obligations.CurtainClearResumesAfterHalfASecond : Prop :=
  ∀ s : State,
    (∃ u : State, exec .curtainClear s = .next u.transmit ∧ SameBut [.gauge, .jogger, .inputs] s u ∧
      u.on .curtain = false ∧ (∀ x, x ≠ .curtain → u.on x = s.on x) ∧
      u.gauge = (if s.gauge.state = .paused then { s.gauge with clearTimer := ⟨true, 0, 500⟩ } else s.gauge) ∧
      u.jogger = (if s.jogger.paused then { s.jogger with clearTimer := ⟨true, 0, 500⟩ } else s.jogger)) ∧
    (s.gauge.state = .paused → s.gauge.clearTimer.running = true →
      ∃ u : State, exec .gaugeCurtainClearExpiry s = .next u.transmit ∧ SameBut [.gauge] s u ∧
        u.gauge.position = s.gauge.position ∧ u.gauge.valid = s.gauge.valid ∧ u.gauge.corrective = s.gauge.corrective ∧
        (s.gauge.phase = some .search →
          u.gauge.state = .referencing ∧ u.gauge.phase = some .search ∧ u.gauge.searchTimer.running = true ∧
            u.gauge.searchTimer.elapsed = s.gauge.searchTimer.elapsed) ∧
        u.gauge.refRun = s.gauge.refRun ∧ u.gauge.pendingMove = s.gauge.pendingMove ∧
        (∀ m, s.gauge.move = some m → s.gauge.phase = some .overshoot →
          u.gauge.move = some m ∧
            (s.gauge.position < m.overshoot.getD m.target →
              u.gauge.state = .moving ∧ u.gauge.phase = some .overshoot) ∧
            (m.overshoot.getD m.target ≤ s.gauge.position →
              (m.target < s.gauge.position → u.gauge.state = .moving ∧ u.gauge.phase = some .approach) ∧
                (s.gauge.position ≤ m.target →
                  u.gauge.state = .settling ∧ u.gauge.phase = none ∧ u.gauge.settleTimer = ⟨true, 0, m.settle⟩))) ∧
        (∀ m, s.gauge.move = some m → s.gauge.phase = some .approach →
          let o : Int := min (m.target + m.backlash) m.gmax
          (m.target < s.gauge.position →
            u.gauge.state = .moving ∧ u.gauge.phase = some .approach ∧ u.gauge.move = some m) ∧
          (s.gauge.position ≤ m.target →
            u.gauge.move = some { m with overshoot := some o } ∧
              (s.gauge.position < o → u.gauge.state = .moving ∧ u.gauge.phase = some .overshoot) ∧
              (o ≤ s.gauge.position →
                u.gauge.state = .settling ∧ u.gauge.phase = none ∧ u.gauge.settleTimer = ⟨true, 0, m.settle⟩)))) ∧
    (s.jogger.paused = true → s.jogger.clearTimer.running = true →
      ∃ u : State, exec .pusherCurtainClearExpiry s = .next u.transmit ∧ SameBut [.jogger] s u ∧
        u.jogger = { s.jogger with paused := false, clearTimer := Timer.stopped } ∧
        (s.stop = false → u.pusherOutput = s.jogger.pusher))

/-- O34. A press finds the monitor IDLE: ONE, with a fresh 500 ms window, and nothing else. A press of the other button
in ONE: the engagement is offered. With the cycle READY, a CUT step in AWAIT_START, the curtain clear and no stop, a
CUT request is raised with waiting time 0, the cycle goes to WAIT_GRANT with the lift's pressure step and dwell, and
the monitor is ENGAGED. With the cycle in RETURN_NEEDED and no stop, a RETURN request is raised, and the cycle keeps
its entry, count and height. Otherwise no request is raised and the monitor is SPENT. A press in ENGAGED or SPENT
changes nothing but the input. Then the part settles, which may give the grant. -/
def Obligations.TwoHandMonitorPresses : Prop :=
  ∀ (hand : Hand) (s : State),
    ∃ u : State, exec (.handPress hand) s = .next u.finish ∧ SameBut [.cycle, .arbiter, .inputs] s u ∧
      u.on (handSwitch hand) = true ∧ (∀ x, x ≠ handSwitch hand → u.on x = s.on x) ∧
      (s.cycle.monitor = .idle →
        u.cycle = { s.cycle with monitor := .one, windowTimer := ⟨true, 0, 500⟩ } ∧ u.arbiter = s.arbiter) ∧
      (s.cycle.monitor = .engaged ∨ s.cycle.monitor = .spent → u.cycle = s.cycle ∧ u.arbiter = s.arbiter) ∧
      (s.cycle.monitor = .one → u.on .handL = true → u.on .handR = true →
        (s.cycle.state = .ready → s.runner.inPhase .awaitStart = true → s.on .curtain = false → s.stop = false →
          u.arbiter = { s.arbiter with cut := some 0 } ∧
            u.cycle =
              { s.cycle with
                state := .waitGrant
                purpose := some .cut
                returnState := .ready
                entryPassed := false
                counted := false
                height := none
                pressureStep := u.cycle.pressureStep
                dwell := u.cycle.dwell
                faulted := false
                monitor := .engaged
                windowTimer := Timer.stopped } ∧
            ∀ l p, s.runner.lift = some l → (s.bank l.bank).snapshot = some p →
              u.cycle.pressureStep = p.pressure ∧ u.cycle.dwell = p.dwell) ∧
        (s.cycle.state = .returnNeeded → s.stop = false →
          u.arbiter = { s.arbiter with cut := some 0 } ∧
            u.cycle =
              { s.cycle with
                state := .waitGrant
                purpose := some .ret
                returnState := .returnNeeded
                monitor := .engaged
                windowTimer := Timer.stopped }) ∧
        (¬(s.cycle.state = .ready ∧ s.runner.inPhase .awaitStart = true ∧ s.on .curtain = false ∧ s.stop = false) →
          ¬(s.cycle.state = .returnNeeded ∧ s.stop = false) →
          u.cycle = { s.cycle with monitor := .spent, windowTimer := Timer.stopped } ∧ u.arbiter = s.arbiter))

/-- O35. A release in ONE with no button left pressed gives IDLE. A release in ENGAGED takes the monitor to SPENT, or on
to IDLE where no button is left pressed, and its window stands: a request waiting for the grant is withdrawn and the
cycle goes back to its return state; a cut in CLAMPING, DWELL or STROKE_DOWN goes to ABORT_RETURN, keeping the
grant, and the Runner takes entry passed in its partial-cut marker; every other cycle, an upward motion among them,
keeps its whole record but for the monitor. In SPENT the monitor goes to IDLE once both buttons are released. The
window's expiry takes ONE to SPENT; outside ONE it changes nothing. Nothing else changes. -/
def Obligations.TwoHandMonitorReleases : Prop :=
  ∀ (hand : Hand) (s : State),
    (∃ u : State, exec (.handRelease hand) s = .next u.transmit ∧ SameBut [.runner, .cycle, .arbiter, .inputs] s u ∧
      u.on (handSwitch hand) = false ∧ (∀ x, x ≠ handSwitch hand → u.on x = s.on x) ∧
      let off : Bool := !u.on .handL && !u.on .handR
      let left : Monitor := if off then .idle else .spent
      (s.cycle.monitor ≠ .engaged →
        u.arbiter = s.arbiter ∧ u.runner = s.runner ∧
          u.cycle =
            (if off = true ∧ (s.cycle.monitor = .one ∨ s.cycle.monitor = .spent) then
              { s.cycle with monitor := .idle, windowTimer := Timer.stopped }
            else s.cycle)) ∧
      (s.cycle.monitor = .engaged → s.cycle.state = .waitGrant →
        u.cycle = { s.cycle.withdrawn with monitor := left } ∧ u.arbiter = { s.arbiter with cut := none } ∧
          u.runner = s.runner) ∧
      (s.cycle.monitor = .engaged → s.cycle.cutting = true → s.cycle.purpose = some .cut →
        u.cycle = { s.cycle.aborted false with monitor := left } ∧ u.arbiter = s.arbiter ∧
          u.runner = s.runnerMarked) ∧
      (s.cycle.monitor = .engaged → s.cycle.state ≠ .waitGrant →
        (s.cycle.cutting = false ∨ s.cycle.purpose ≠ some .cut) →
        u.cycle = { s.cycle with monitor := left, windowTimer := Timer.stopped } ∧ u.arbiter = s.arbiter ∧
          u.runner = s.runner)) ∧
    (s.cycle.monitor = .one →
      exec .windowExpiry s =
        .next (s.setCycle { s.cycle with monitor := .spent, windowTimer := Timer.stopped }).transmit) ∧
    (s.cycle.monitor ≠ .one → exec .windowExpiry s = .next s.transmit)

/-- O36. CLAMP_PRESSURE_ACTIVE in CLAMPING with a dwell above 0 sends the cycle to DWELL, with the reading (at most
16,000) as the cycle's and the last clamped height and the dwell timer running; with a dwell of 0 the timer has
expired at once, and the cycle goes on to STROKE_DOWN under the conditions of R109 and stays in DWELL without them;
in any other state only the input and the channel change. CLAMP_PRESSURE_INACTIVE in CLAMPING, DWELL or STROKE_DOWN
of a cycle that has its height aborts it: ABORT_RETURN, an ENGAGED monitor SPENT, no fault, the partial-cut marker
set where the knife has passed the entry point; in any other state only the input changes. DWELL_EXPIRY in DWELL,
with the monitor ENGAGED, CURTAIN clear, CLAMP_PRESSURE active and no STOP-class fault: STROKE_DOWN, the knife is
commanded down with the clamp held; with CLAMP_PRESSURE inactive the cycle aborts; with any other of the conditions
missing the knife is not started; outside DWELL nothing changes. ENTRY_POINT in STROKE_DOWN: a knife height at or
below the cycle clamped height makes entry passed yes; a higher one, or another state, changes only the channel.
CLAMP_BOTTOM in CLAMPING: a clamp height of 10 tenths or less sends the clamp up (UNCLAMP), the cycle to end
FAULTED, and latches NO_STACK with its FAULT notice and the guillotine's halt; a higher one, or another state,
changes only the channel. -/
def Obligations.ClampDwellAndEntry : Prop :=
  let may : State → Prop := fun s => s.cycle.monitor = .engaged ∧ s.on .curtain = false ∧ s.stop = false
  (∀ (h : Nat) (s : State),
      (∃ u : State, exec (.clampPressureActive h) s = .next u.transmit ∧
        SameBut [.cycle, .inputs, .channels] s u ∧
        u.on .clampPressure = true ∧ (∀ x, x ≠ .clampPressure → u.on x = s.on x) ∧
        u.channels = { s.channels with clampHeight := h } ∧
        (s.cycle.state = .clamping →
          let c : Cycle := { s.cycle with state := .dwell, height := some (min h 16000), lastHeight := min h 16000 }
          (0 < s.cycle.dwell → u.cycle = { c with dwellTimer := ⟨true, 0, s.cycle.dwell⟩ }) ∧
            (s.cycle.dwell = 0 → may s → u.cycle = { c with state := .strokeDown, dwellTimer := ⟨false, 0, 0⟩ }) ∧
            (s.cycle.dwell = 0 → ¬may s → u.cycle = { c with dwellTimer := ⟨false, 0, 0⟩ })) ∧
        (s.cycle.state ≠ .clamping → u.cycle = s.cycle)) ∧
      ∃ u : State, exec .clampPressureInactive s = .next u.transmit ∧ SameBut [.runner, .cycle, .inputs] s u ∧
        u.on .clampPressure = false ∧ (∀ x, x ≠ .clampPressure → u.on x = s.on x) ∧
        (s.cycle.cutting = true → s.cycle.height ≠ none →
          u.cycle = s.cycle.aborted false ∧ u.runner = s.runnerMarked) ∧
        (s.cycle.cutting = false ∨ s.cycle.height = none → u.cycle = s.cycle ∧ u.runner = s.runner)) ∧
    (∀ s : State,
      (s.cycle.state ≠ .dwell → exec .dwellExpiry s = .next s.transmit) ∧
      (s.cycle.state = .dwell →
        ∃ u : State, exec .dwellExpiry s = .next u.transmit ∧ SameBut [.runner, .cycle] s u ∧
          (s.on .clampPressure = true →
            let c : Cycle := { s.cycle with dwellTimer := ⟨false, s.cycle.dwellTimer.limit, s.cycle.dwellTimer.limit⟩ }
            u.runner = s.runner ∧
              (may s →
                u.cycle = { c with state := .strokeDown } ∧
                  u.cycleCommand = ⟨.down, .down, some s.cycle.pressureStep⟩ ∧
                  (s.arbiter.holder = some .cut → u.cycleOutputs = u.cycleCommand)) ∧
              (¬may s → u.cycle = c)) ∧
          (s.on .clampPressure = false → u.cycle = s.cycle.aborted false ∧ u.runner = s.runnerMarked))) ∧
    (∀ (h : Nat) (s : State),
      (∀ k, s.cycle.state = .strokeDown → s.cycle.height = some k →
        exec (.entryPoint h) s =
          .next
            ((s.setChannels { s.channels with knifeHeight := h }).setCycle
              { s.cycle with entryPassed := s.cycle.entryPassed || decide (h ≤ k) }).transmit) ∧
      (s.cycle.state ≠ .strokeDown ∨ s.cycle.height = none →
        exec (.entryPoint h) s = .next (s.setChannels { s.channels with knifeHeight := h }).transmit) ∧
      (s.cycle.state = .clamping → h ≤ 10 →
        let b : State :=
          (s.setChannels { s.channels with clampHeight := h }).setCycle
            { s.cycle with state := .unclamp, faulted := true }
        (s.faults.noStack = false →
          ∃ u : State, exec (.clampBottom h) s = .next u.transmit ∧
            GuillotineFault b u { s.faults with noStack := true }) ∧
          (s.faults.noStack = true → exec (.clampBottom h) s = .next b.transmit)) ∧
      (s.cycle.state ≠ .clamping ∨ 10 < h →
        exec (.clampBottom h) s = .next (s.setChannels { s.channels with clampHeight := h }).transmit))

/-- O37. In STROKE_DOWN the cycle goes to STROKE_UP with the stroke counted. With a CUT step at N in CYCLE: the pending
cut-off takes the Working Stack's length less N with the cycle's clamped height and the step's disposition, the
Working Stack takes length N and that height, both without a partial-cut marker, the strip number goes to the cut-
off for ASIDE and to the Working Stack otherwise, and the tally counts the stroke, a re-cut if the marker was set,
and a limited cut if the move was LIMITED. In any other cycle state the stroke is not counted. Nothing else changes. -/
def Obligations.StrokeCountedAtKnifeBottom : Prop :=
  ∀ (s : State),
    (s.cycle.state ≠ .strokeDown → exec .knifeBottomActive s = .next (s.sense .knifeBottom true).transmit) ∧
    (s.cycle.state = .strokeDown →
      ∃ u : State, exec .knifeBottomActive s = .next u.transmit ∧ SameBut [.runner, .cycle, .inputs] s u ∧
        u.on .knifeBottom = true ∧ (∀ x, x ≠ .knifeBottom → u.on x = s.on x) ∧
        u.cycle = { s.cycle with state := .strokeUp, counted := true } ∧
        (s.runner.inPhase .cycle = false → u.runner = s.runner) ∧
        (∀ (t : CutStep) (w : StackRec) (n h : Nat) (d : Disposition) (plate : Bool), s.runner.inPhase .cycle = true →
          s.theStep = some t → t.action = .cut n d plate → s.runner.working = some w → s.cycle.height = some h →
          u.runner =
            { s.runner with
              cutoff :=
                some
                  ⟨⟨w.job, w.lift, if d = .aside then t.strip else w.strip, w.along - n, w.across, h, w.orient, false⟩, d⟩
              working :=
                some ⟨w.job, w.lift, if d = .aside then w.strip else t.strip, n, w.across, h, w.orient, false⟩
              tally :=
                { s.runner.tally with
                  strokes := s.runner.tally.strokes + 1
                  recuts := s.runner.tally.recuts + (if w.partialCut then 1 else 0)
                  limited :=
                    s.runner.tally.limited +
                      (if (s.runner.moveResult.map MoveResult.limited).getD false then 1 else 0) } }))

/-- O38. KNIFE_TOP_ACTIVE in STROKE_UP sends the cycle to UNCLAMP; in any other state only the input changes.
CLAMP_TOP_ACTIVE in UNCLAMP, and in ABORT_RETURN with KNIFE_TOP active, ends the cycle: READY, no purpose, entry and
count cleared, no height, an ENGAGED monitor SPENT, the grant released (FREE or UNAVAILABLE by HYD_READY). A step in
CYCLE goes to TAKEAWAY if the stroke was counted and back to AWAIT_START with a STEP notice ABORTED if not. A Runner
with no step in CYCLE is unchanged. In any other state only the input changes before the part settles. -/
def Obligations.ReturnEndsTheCycle : Prop :=
  ∀ (s : State),
    (s.cycle.state = .strokeUp →
      exec .knifeTopActive s =
        .next ((s.sense .knifeTop true).setCycle { s.cycle with state := .unclamp }).transmit) ∧
    (s.cycle.state ≠ .strokeUp → exec .knifeTopActive s = .next (s.sense .knifeTop true).transmit) ∧
    (s.cycle.state ≠ .unclamp → (s.cycle.state ≠ .abortReturn ∨ s.on .knifeTop = false) →
      exec .clampTopActive s = .next (s.sense .clampTop true).finish) ∧
    ((s.cycle.state = .unclamp ∨ (s.cycle.state = .abortReturn ∧ s.on .knifeTop = true)) →
      ∃ u : State, exec .clampTopActive s = .next u.finish ∧ SameBut [.link, .runner, .cycle, .arbiter, .inputs] s u ∧
        u.on .clampTop = true ∧ (∀ x, x ≠ .clampTop → u.on x = s.on x) ∧ CycleEnds (s.sense .clampTop true) u)

/-- O39. POWER_ON_RESET with the first sample's active inputs and readings: tables, banks, planner, queues and lists
empty, the Runner in CLEARANCE, reference INVALID and position 0, the cycle READY if KNIFE_TOP and CLAMP_TOP are
both active and RETURN_NEEDED otherwise, Infeed and Jogger EMPTY or CLEARANCE by what stands there, the Arbiter FREE
or UNAVAILABLE, every input seeded with its counter 0, only ESTOP latched and only if E_STOP is open, the store kept
with its write ended (a write cut short leaves the old or the new record whole) and cause POWER. A channel reads its
signal by R167, and E_STOP is open when either of its channels is (R164). FRAME_SENT of the RESTART reply gives the
same on the levels and readings of the coming sample, or on those that stand where no sample is on the tape (log
23), but keeps reference, position and store, with no write and cause RESTART. Gmin_std is taken as the store then
holds it (log 19). A CLEARANCE notice is queued for every station in CLEARANCE. The two-hand monitor, SPENT at the
reset, is IDLE at once if no hand button is active (log 9); the order of the notices is log 28. -/
def Obligations.ResetsGiveTheResetValues : Prop :=
  let resetTo : State → (Switch → Bool) → Channels → Bool → Int → State → Prop := fun s on c valid pos u =>
    let waits : List WaitFor :=
      [.clearance .runner] ++ (if on .pilePresent || on .reamHeld then [.clearance .infeed] else []) ++
        (if on .liftPresent then [.clearance .jogger] else [])
    u.jobs = [] ∧ u.admission = 0 ∧ u.planner = none ∧
      u.bankA = ⟨none, .empty, 0, [], none⟩ ∧ u.bankB = ⟨none, .empty, 0, [], none⟩ ∧
      u.runner =
        ⟨.clearance, none, none, 0, none, false, false, none, none, none, none, [], ⟨0, 0, 0, 0, 0⟩, none, false, false,
          false⟩ ∧
      u.gauge =
        ⟨if valid then .idle else .unreferenced, none, valid, pos, none, none, 0, none, none, Timer.stopped,
          Timer.stopped, Timer.stopped, Timer.stopped, u.store.consts.gminStd, false⟩ ∧
      u.gaugeTravel = false ∧ u.gaugeDirection = none ∧
      u.cycle =
        ⟨if on .knifeTop && on .clampTop then .ready else .returnNeeded, none, .ready, false, false, none, 0, 4, 300,
          false, if on .handL || on .handR then .spent else .idle, Timer.stopped, Timer.stopped⟩ ∧
      u.infeed = Infeed.reset (on .pilePresent || on .reamHeld) ∧
      u.infeed.turner = (if on .pilePresent || on .reamHeld then .clearance else .empty) ∧
      u.jogger = Jogger.reset (on .liftPresent) (on .pusherHome) (on .curtain) ∧
      u.jogger.state = (if on .liftPresent then .clearance else .empty) ∧
      u.arbiter = ⟨if on .hydReady then .free else .unavailable, none, none, none, none⟩ ∧
      (∀ x, u.inputs.get x = ⟨on x, on x, 0, false⟩) ∧ u.channels = c ∧
      (∀ k, u.faults.has k = (k = .eStop && on .eStop)) ∧
      u.link.requests = [] ∧ u.link.replies = [] ∧ u.link.tx = .idle ∧ u.link.restart = none ∧
      u.link.overflow = false ∧ u.link.rx = Receiver.hunting ∧
      u.link.modes = ⟨⟨.every, true⟩, ⟨.every, true⟩, ⟨.off, true⟩, ⟨.every, true⟩, ⟨.every, true⟩⟩ ∧
      u.link.notices = waits.zipIdx.map (fun x => ⟨BitVec.ofNat 16 x.2, .wait x.1⟩) ∧
      u.link.number = BitVec.ofNat 16 waits.length ∧
      u.store.write = none ∧ u.pending = s.pending ∧ u.tape = s.tape
  (∀ (contacts : Contacts) (signals : Signals) (s : State),
    ∃ u : State, exec (.powerOnReset contacts signals) s = .next u.finish ∧
      resetTo s (fun x => if x = .eStop then contacts.eStop.one || contacts.eStop.two else contacts.active.contains x)
        ⟨convert 20000 signals.pileTop, convert 20000 signals.clampHeight, convert 20000 signals.knifeHeight,
          convert 160000 signals.widthProbe⟩ false 0 u ∧
      u.store.cause = .power ∧
      (s.store.write = none → u.store.consts = s.store.consts ∧ u.store.classes = s.store.classes) ∧
      (∀ w, s.store.write = some w →
        (u.store.consts = s.store.consts ∧ u.store.classes = s.store.classes) ∨
          (u.store.consts = (s.store.commit w.target).consts ∧ u.store.classes = (s.store.commit w.target).classes))) ∧
    ∀ s : State, s.link.restartSent = true →
      ∃ u : State, exec .frameSent s = .next u.finish ∧
        resetTo s
          (fun x => match s.tape with | [] => (s.inputs.get x).raw | y :: _ => rawLevel y.contacts x)
          (match s.tape with | [] => s.channels | y :: _ => readSignals y.signals) s.gauge.valid s.gauge.position u ∧
        u.store = { s.store with write := none, cause := .restart }

/-- O40. A sample shows E_STOP open when either of its channels is open, and every other input by its one level. At a
sample an input whose raw state equals its filtered state has its counter cleared; one whose raw state differs
counts, at most to 15. Below NF of its group, as the store holds it at that sample, the filtered state stays, but
for an opening of E_STOP, which acts at once. At NF the change is made at once where the table has no row for it
(log 37) and is due for its command where it has one (log 44); the command of the one change due comes as the part's
event, and carried out it gives the input its level and changes no other input. NF samples in a row that differ, and
no fewer, bring a change. A millisecond takes the levels and the readings of the coming sample; with none on the
tape they stand (log 5). A channel at or below 0 V reads 0, at or above 10 V the top of its range, and between them
in proportion, to the next whole number below or above (a free value, log 43). -/
def Obligations.InputsAreFiltered : Prop :=
  (∀ (s : State) (raw : Switch → Bool) (x : Switch),
      let i : InputState := s.inputs.get x
      let j : InputState := (s.sampleInputs raw).inputs.get x
      let nf : Nat :=
        if x ∈ [Switch.curtain, .eStop] then s.store.consts.nfSafety
        else if x ∈ [Switch.handL, .handR, .stepOk, .jogOk, .resetBtn, .serviceKey] then s.store.consts.nfOperator
        else s.store.consts.nfMachine
      let n : Nat := min (i.count + 1) 15
      (raw x = i.filtered → j = ⟨raw x, i.filtered, 0, false⟩) ∧
      (raw x ≠ i.filtered → n < nf → ¬(x = .eStop ∧ raw x = true) → j = ⟨raw x, i.filtered, n, false⟩) ∧
      (raw x ≠ i.filtered → nf ≤ n ∨ (x = .eStop ∧ raw x = true) →
        (changeOf s x (raw x) = none → j = ⟨raw x, raw x, 0, false⟩) ∧
        (changeOf s x (raw x) ≠ none → j = ⟨raw x, i.filtered, n, true⟩))) ∧
    (∀ (s : State) (x : Switch) (c : Instr), (s.inputs.get x).due = true →
      (s.inputs.get x).raw ≠ (s.inputs.get x).filtered → (∀ y, y ≠ x → (s.inputs.get y).due = false) →
      changeOf s x (s.inputs.get x).raw = some c → changeEvent s = some c) ∧
    (∀ s : State, (∀ x, (s.inputs.get x).due = false) → changeEvent s = none) ∧
    (∀ (s t : State) (x : Switch) (level : Bool) (c : Instr), changeOf s x level = some c → exec c s = .next t →
      t.on x = level ∧ ∀ y, y ≠ x → t.on y = s.on y) ∧
    (∀ (i : InputState) (nf k : Nat), i.count = 0 → 1 ≤ k → k ≤ nf → nf ≤ 15 →
      (List.replicate k (!i.filtered)).foldl (fun j raw => j.sample raw nf false true) i =
        ⟨!i.filtered, i.filtered, k, decide (k = nf)⟩) ∧
    (∀ s : State,
      (s.tape = [] →
        s.tick.inputs = (s.sampleInputs fun x => (s.inputs.get x).raw).inputs ∧ s.tick.channels = s.channels) ∧
      ∀ (y : Sample) (rest : List Sample), s.tape = y :: rest →
        s.tick.inputs =
            (s.sampleInputs fun x =>
              if x = .eStop then y.contacts.eStop.one || y.contacts.eStop.two else y.contacts.active.contains x).inputs ∧
          s.tick.channels =
            ⟨convert 20000 y.signals.pileTop, convert 20000 y.signals.clampHeight, convert 20000 y.signals.knifeHeight,
              convert 160000 y.signals.widthProbe⟩) ∧
    ∀ (top : Nat) (v : Int),
      (v ≤ 0 → convert top v = 0) ∧ (10000000000 ≤ v → convert top v = top) ∧
        (0 ≤ v → v ≤ 10000000000 →
          (convert top v : Int) * 10000000000 < v * top + 10000000000 ∧
            v * top < (convert top v : Int) * 10000000000 + 10000000000)

/-- O41. For every command and every state, the command is run to a next state, whose queue of waiting commands and
whose coming samples are those before it. No command faults and none is refused. The queue and the samples are the
model's own fields (logs 1, 5); that a command runs also in a state in which the manual does not let its event come,
and with operands outside their ranges, is the model's choice (logs 3, 34). -/
def Obligations.EveryCommandCompletes : Prop :=
  ∀ (c : Instr) (s : State), ∃ t : State, exec c s = .next t ∧ t.pending = s.pending ∧ t.tape = s.tape

/-- O42. HOME_SWITCH_ACTIVE in SEARCH, travelling or paused: the position becomes the home position of the run, the
reference is VALID, the search limit stops and the approach to Gmax begins with a fresh stall watch and the
corrective count 0 (log 50), paused without a watch if the search was paused; the pending move stays. In any other
phase only the input changes. SEARCH_LIMIT_EXPIRY in REFERENCING, SEARCH latches REFERENCE_FAIL, and ENCODER_STALL
while the stall watch runs latches ENCODER_STALL: the axis is FAULTED with the reference INVALID, the move and the
pending move are dropped, the corrective count is 0 (R95), the Runner's ask is void, the FAULT notice is queued, and
behind it (R175) a reference run in progress is reported ABORTED with actual position 0. A cut in CLAMPING, DWELL or
STROKE_DOWN aborts as FAULTED (R115), its Working Stack with the partial-cut marker where the knife has passed the
entry point (R69); a step in AWAIT_START goes back to PREPARE, a cut of it that waits for the grant withdrawn (R67).
Outside those conditions neither event changes anything. -/
def Obligations.ReferenceRunEvents : Prop :=
  ∀ s : State,
    (∀ r, s.gauge.phase = some .search → s.gauge.refRun = some r →
      let halted : Bool := s.gauge.state = .paused
      ∃ u : State, exec .homeSwitchActive s = .next u.transmit ∧ SameBut [.gauge, .inputs] s u ∧
        u.on .homeSwitch = true ∧ (∀ x, x ≠ .homeSwitch → u.on x = s.on x) ∧
        u.gauge =
          { s.gauge with
            state := if halted then .paused else .moving
            phase := some .approach
            valid := true
            position := r.ph
            move := some ⟨none, r.gmax, none, false, r.backlash, r.gmax, r.wPos, r.settle⟩
            corrective := 0
            searchTimer := { s.gauge.searchTimer with running := false }
            stallTimer := if halted then Timer.stopped else ⟨true, 0, 200⟩
            clearTimer := if halted then s.gauge.clearTimer else Timer.stopped
            driven := s.gauge.driven || !halted }) ∧
    (s.gauge.phase ≠ some .search ∨ s.gauge.refRun = none →
      exec .homeSwitchActive s = .next (s.sense .homeSwitch true).transmit) ∧
    (s.gauge.state = .referencing → s.gauge.phase = some .search → s.faults.referenceFail = false →
      ∃ u : State, exec .searchLimitExpiry s = .next u.transmit ∧
        AxisFault s u { s.faults with referenceFail := true } false) ∧
    (s.gauge.state ≠ .referencing ∨ s.gauge.phase ≠ some .search →
      exec .searchLimitExpiry s = .next s.transmit) ∧
    (s.gauge.stallTimer.running = true → s.faults.encoderStall = false →
      ∃ u : State, exec .encoderStall s = .next u.transmit ∧
        AxisFault s u { s.faults with encoderStall := true } false) ∧
    (s.gauge.stallTimer.running = false → exec .encoderStall s = .next s.transmit)

/-- O43. A rearward step adds one hundredth to the position and a forward step takes one off, in every axis state, with
the stall watch started anew. In MOVING, OVERSHOOT the approach begins once the overshoot point is reached, and in
MOVING, APPROACH the gauge settles once T is reached; otherwise only the count changes. A step that passes below
Gmin_std with a VALID reference and the plate off latches PLATE_REMOVED, and so does PLATE_FITTED_INACTIVE of a
fitted plate with a VALID position below Gmin_std: the FAULT notice is queued, and behind it (R175) the STEP notice
ABORTED of a reference run that the fault interrupts; the gauge stands, keeping position and reference (R95); a cut
in CLAMPING, DWELL or STROKE_DOWN aborts as FAULTED, its Working Stack with the partial-cut marker where the knife
has passed the entry point; a step in AWAIT_START goes back to PREPARE. With PLATE_REMOVED latched already, the one
only counts and the other only takes its input. Gmin_std is the axis's, as read at its last move or run start (R100;
log 19). The position is taken to be within its bounds (log 30). -/
def Obligations.EncoderStepsMoveThePosition : Prop :=
  let counted : Gauge → Int → Gauge → Prop := fun g p h =>
    let c : Gauge := { g with position := p, stallTimer := { g.stallTimer with elapsed := 0 } }
    let settles : Move → Gauge := fun m =>
      { g with
        position := p
        state := .settling
        phase := none
        settleTimer := ⟨true, 0, m.settle⟩
        stallTimer := Timer.stopped
        clearTimer := Timer.stopped }
    (g.state ≠ .moving → h = c) ∧
      (∀ m, g.state = .moving → g.move = some m → g.phase = some .overshoot →
        (p < m.overshoot.getD m.target → h = c) ∧
        (m.overshoot.getD m.target ≤ p → m.target < p →
          h =
            { c with
              phase := some .approach
              stallTimer := ⟨true, 0, 200⟩
              clearTimer := Timer.stopped
              driven := true }) ∧
        (m.overshoot.getD m.target ≤ p → p ≤ m.target → h = settles m)) ∧
      ∀ m, g.state = .moving → g.move = some m → g.phase = some .approach →
        (m.target < p → h = c) ∧ (p ≤ m.target → h = settles m)
  ∀ s : State,
    (∀ (dir : EncoderDir) (p : Int), -500000 < s.gauge.position → s.gauge.position < 500000 →
      p = (match dir with | .rearward => s.gauge.position + 1 | .forward => s.gauge.position - 1) →
      ∃ b : State, SameBut [.gauge] s b ∧ counted s.gauge p b.gauge ∧ b.gauge.position = p ∧
        b.gauge.valid = s.gauge.valid ∧
        ((s.gauge.valid = false ∨ s.on .plateFitted = true ∨ s.gauge.position < s.gauge.gminStd ∨
            (s.gauge.gminStd : Int) ≤ p ∨ s.faults.plateRemoved = true) →
          exec (.encoderStep dir) s = .next b.transmit) ∧
        (s.gauge.valid = true → s.on .plateFitted = false → (s.gauge.gminStd : Int) ≤ s.gauge.position →
          p < s.gauge.gminStd → s.faults.plateRemoved = false →
          ∃ u : State, exec (.encoderStep dir) s = .next u.transmit ∧
            GuillotineFault b u { s.faults with plateRemoved := true } ∧ u.gauge.position = p ∧
            u.gauge.valid = true ∧ u.gauge.inMotion = false ∧ u.gaugeTravel = false)) ∧
    (s.on .plateFitted = true → s.gauge.valid = true → s.gauge.position < s.gauge.gminStd →
      s.faults.plateRemoved = false →
      ∃ u : State, exec .plateFittedInactive s = .next u.transmit ∧
        GuillotineFault (s.sense .plateFitted false) u { s.faults with plateRemoved := true } ∧
        u.on .plateFitted = false ∧ u.gauge.position = s.gauge.position ∧ u.gauge.valid = true ∧
        u.gauge.inMotion = false ∧ u.gaugeTravel = false) ∧
    (s.gauge.valid = false ∨ (s.gauge.gminStd : Int) ≤ s.gauge.position ∨ s.on .plateFitted = false ∨
        s.faults.plateRemoved = true →
      exec .plateFittedInactive s = .next (s.sense .plateFitted false).transmit)

/-- O44. In SETTLING with the position within the position window of T, a move is complete: the axis is IDLE, the result
(LIMITED mark, target, actual position) is recorded and the Runner takes it: a step in POSITIONING goes to
AWAIT_START, one in PARKING to AWAIT_CONFIRM with its WAIT notice STEP_OK, a handover park is recorded. A reference
run ends with its STEP notice DONE, and the pending move, if there is one, then starts from the present position.
Outside the window, with fewer than two corrective moves made, one more starts from the present position toward the
same target, paused if the curtain is broken: of the move, only the overshoot point is taken anew; after two, the
axis is FAULTED with GAUGE_POSITION, keeps its reference, and its corrective count is 0 (R95); the FAULT notice is
queued, and behind it (R175) the STEP notice ABORTED of a reference run in progress, with the position as actual
position where the reference is VALID; a cut in CLAMPING, DWELL or STROKE_DOWN aborts as FAULTED (R115), and a step
in AWAIT_START goes back to PREPARE (R67). -/
def Obligations.SettleExpiryChecksTheWindow : Prop :=
  ∀ (s : State) (m : Move), s.gauge.state = .settling → s.gauge.move = some m →
    ((s.gauge.position - m.target).natAbs ≤ m.wPos →
      (s.gauge.refRun = none →
        ∃ u : State, exec .settleExpiry s = .next u.finish ∧ SameBut [.link, .runner, .gauge] s u ∧
          u.gauge =
            { s.gauge with
              state := .idle
              move := none
              last := some ⟨m.limited, m.target, s.gauge.position⟩
              settleTimer := Timer.stopped } ∧
          (s.runner.asked = none → u.runner = s.runner ∧ u.link = s.link) ∧
          (∀ l, s.runner.asked = some (.handover l) →
            u.runner = { s.runner with asked := none, park := some l } ∧ u.link = s.link) ∧
          (s.runner.asked = some .step → s.runner.inPhase .positioning = true →
            u.runner =
              { s.runner with
                asked := none
                moveResult := some ⟨m.limited, m.target, s.gauge.position⟩
                phase := some .awaitStart } ∧ u.link = s.link) ∧
          (∀ t, s.runner.asked = some .step → s.runner.inPhase .parking = true → s.theStep = some t →
            u.runner =
              { s.runner with
                asked := none
                moveResult := some ⟨m.limited, m.target, s.gauge.position⟩
                phase := some .awaitConfirm } ∧
            u.link = s.link.offer (.wait (.stepOk t.action.kind)))) ∧
      (∀ r, s.gauge.refRun = some r → s.gauge.pendingMove = none →
        ∃ u : State, exec .settleExpiry s = .next u.finish ∧ SameBut [.link, .gauge] s u ∧
          u.gauge = { s.gauge with state := .idle, move := none, refRun := none, settleTimer := Timer.stopped } ∧
          u.link =
            s.link.offer
              (.step 0 0 0 .reference .done ⟨false, r.gmax, if s.gauge.valid then s.gauge.position else 0⟩)) ∧
      (∀ r req, s.gauge.refRun = some r → s.gauge.pendingMove = some req →
        let rests : State :=
          s.setGauge { s.gauge with state := .idle, move := none, refRun := none, settleTimer := Timer.stopped }
        ∃ u : State, exec .settleExpiry s = .next u.finish ∧ SameBut [.link, .gauge] s u ∧
          u.gauge = (rests.startMove req).gauge ∧ u.gauge.refRun = none ∧ u.gauge.pendingMove = none ∧
          u.gauge.corrective = 0 ∧
          u.gauge.move = some (moveOf s.store.consts (s.on .plateFitted) s.gauge.position req) ∧
          u.gauge.inMotion = true ∧
          u.link =
            s.link.offer
              (.step 0 0 0 .reference .done ⟨false, r.gmax, if s.gauge.valid then s.gauge.position else 0⟩))) ∧
    (m.wPos < (s.gauge.position - m.target).natAbs →
      (s.gauge.corrective < 2 →
        ∃ u : State, exec .settleExpiry s = .next u.finish ∧ SameBut [.gauge] s u ∧
          u.gauge =
            { s.gauge with
              state := if s.on .curtain then .paused else .moving
              phase := some (if s.gauge.position < m.target then .overshoot else .approach)
              corrective := s.gauge.corrective + 1
              settleTimer := Timer.stopped
              stallTimer := if s.on .curtain then Timer.stopped else ⟨true, 0, 200⟩
              clearTimer := if s.on .curtain then s.gauge.clearTimer else Timer.stopped
              driven := s.gauge.driven || !s.on .curtain
              move :=
                some
                  { m with
                    overshoot :=
                      if s.gauge.position < m.target then some (min (m.target + m.backlash) m.gmax) else none } }) ∧
      (2 ≤ s.gauge.corrective → s.faults.gaugePosition = false →
        ∃ u : State, exec .settleExpiry s = .next u.finish ∧
          AxisFault s u { s.faults with gaugePosition := true } s.gauge.valid))

/-- O45. Every STEP_OK takes the input and the probe reading. In AWAIT_CONFIRM of a TURN or RECALL, a reading that
differs from the expected across by no more than the tolerance completes the step: the Working Stack is turned, or
is the top Aside List entry, which leaves the list, the STEP notice DONE is queued, and the next step begins, or the
Runner is HELD at it, or the lift ends (R63, R74 to R76). A larger difference queues a WAIT notice MISMATCH with
both lengths and nothing else. On a TAKE it counts only with LOAD_IN_PLACE inactive; the take-away then ends as a
reaction of the part (log 6) once FRONT_CLEAR is active: no Working Stack, its disposition counted, the STEP notice
DONE, the inspection made pending by the first OUTPUT of lift 1 of a first-off job, and the step completes in the
same way. HELD with the inspection pending, STEP_OK ends the inspection: the Runner stays HELD under the hold flag,
and otherwise the held step begins, or the lift ends if none remains. In CLEARANCE the Runner goes to IDLE if the
table is empty, FRONT_CLEAR is active and the cycle is READY. In any other state or phase it changes nothing else. -/
def Obligations.StepOkConfirms : Prop :=
  let sensed : Nat → State → State := fun w s => (s.sense .stepOk true).setChannels { s.channels with widthProbe := w }
  let near : Nat → Nat → Nat → Prop := fun tol a b => a ≤ b + tol ∧ b ≤ a + tol
  (∀ (w : Nat) (s : State),
    (∀ (t : CutStep) (l : CurrentLift) (k : StepAction), s.runner.inPhase .awaitConfirm = true → s.theStep = some t →
      s.runner.lift = some l → t.action = k →
      (∀ (turn : Option TurnKind), k = (match turn with | some x => .turn x | none => .recall) →
        (near s.store.consts.widthTolerance t.expAcross w →
          ∃ u : State, exec (.stepOk w) s = .next u.finish ∧
            StepCompletes
              (((sensed w s).setRunner
                { s.runner with
                  working :=
                    (match turn with
                    | some x =>
                      s.runner.working.map fun b =>
                        ⟨b.job, b.lift, t.strip, if x = .half then b.along else b.across,
                          if x = .half then b.across else b.along, b.height, b.orient.turn x, b.partialCut⟩
                    | none =>
                      s.runner.aside.getLast?.map fun a =>
                        ⟨a.job, a.lift, a.strip, a.along, a.across, a.height, a.orient, false⟩)
                  aside := (match turn with | some _ => s.runner.aside | none => s.runner.aside.dropLast) }).setLink
                (s.link.offer
                  (.step l.job l.lift t.index k.kind .done (s.runner.moveResult.getD ⟨false, 0, 0⟩)))) u) ∧
        (¬near s.store.consts.widthTolerance t.expAcross w →
          exec (.stepOk w) s =
            .next ((sensed w s).setLink (s.link.offer (.wait (.mismatch t.expAcross w)))).finish)) ∧
      (∀ d, k = .take d →
        exec (.stepOk w) s =
          .next
            (if s.on .loadInPlace then sensed w s
            else (sensed w s).setRunner { s.runner with takeOk := true }).finish)) ∧
    (s.runner.state = .held → s.runner.firstOff = true →
      (s.runner.hold = true →
        exec (.stepOk w) s = .next ((sensed w s).setRunner { s.runner with firstOff := false }).finish) ∧
      (s.runner.hold = false →
        ∃ u : State, exec (.stepOk w) s = .next u.finish ∧
          (s.runner.lastDone = false →
            StepBegins ((sensed w s).setRunner { s.runner with firstOff := false }) u) ∧
          ∀ l, s.runner.lastDone = true → s.runner.lift = some l →
            LiftEnds ((sensed w s).setRunner { s.runner with firstOff := false }) u l)) ∧
    (s.runner.state = .clearance →
      exec (.stepOk w) s =
        .next
          (if s.on .loadInPlace = false ∧ s.on .frontClear = true ∧ s.cycle.state = .ready then
            (sensed w s).setRunner { s.runner with state := .idle }
          else sensed w s).finish) ∧
    ((s.runner.state = .idle ∨ s.runner.state = .loading ∨ s.runner.state = .liftEnd) ∨
        (s.runner.state = .held ∧ s.runner.firstOff = false) ∨
        (s.runner.state = .running ∧ s.runner.phase ≠ some .awaitConfirm) →
      exec (.stepOk w) s = .next (sensed w s).finish)) ∧
    TakenAt 13 takeEnd ∧
    ∀ (s : State),
      (s.runner.inPhase .awaitConfirm = false ∨ s.runner.takeOk = false ∨ s.on .frontClear = false →
        takeEnd s = none) ∧
      ∀ (t : CutStep) (d : TakeDisposition) (l : CurrentLift), s.runner.inPhase .awaitConfirm = true →
        s.theStep = some t → t.action = .take d → s.runner.lift = some l → s.runner.takeOk = true →
        s.on .frontClear = true →
        let first : Bool := d = .output && s.runner.tally.outputs = 0 && s.firstOffJob
        let done : Link := s.link.offer (.step l.job l.lift t.index .take .done ⟨false, 0, 0⟩)
        ∃ u : State, takeEnd s = some u ∧
          StepCompletes
            ((s.setRunner
              { s.runner with
                working := none
                takeOk := false
                tally :=
                  { s.runner.tally with
                    outputs := s.runner.tally.outputs + (if d = .output then 1 else 0)
                    waste := s.runner.tally.waste + (if d = .waste then 1 else 0) }
                firstOff := s.runner.firstOff || first }).setLink
              (if first then done.offer (.wait .inspect) else done)) u

/-- O46. Each of PLATE_FITTED_ACTIVE, FRONT_CLEAR_ACTIVE, LOAD_IN_PLACE_INACTIVE and REAM_HELD_INACTIVE takes its input
and the part settles. What they let go on are reactions of the part (log 6): a settled part has none of them due,
and one that is due with no reaction before it is carried out as the part settles. A step in AWAIT_START while a
guillotine station fault stands goes back to PREPARE, and a CUT request in WAIT_GRANT is withdrawn, the cycle back
in its return state and an ENGAGED monitor SPENT (that a step which comes to AWAIT_START under a standing fault goes
back too is log 10). A step waiting in PREPARE goes to POSITIONING with the plate fitted, and one sent back by a
guillotine station fault is checked anew once no such fault stands (log 11). A take-away with FRONT_CLEAR active
ends: the cut-off joins the Aside List or is counted by its disposition, the STEP notice DONE is queued, the first
OUTPUT of lift 1 of a first-off job makes the inspection pending, and the step completes: the next begins, or the
Runner is HELD, or the lift ends. LIFT_END goes to IDLE with the table empty and FRONT_CLEAR active. The Lift unit
in CLEARANCE owes its RETURN once the forks are free. -/
def Obligations.TableSwitchesReleaseTheRunner : Prop :=
  TakenAt 3 startRevoked ∧ TakenAt 11 prepareLeave ∧ TakenAt 12 takeawayEnd ∧ TakenAt 14 liftEndLeave ∧ TakenAt 21 liftClearing ∧
  ∀ s : State,
    exec .plateFittedActive s = .next (s.sense .plateFitted true).finish ∧
    exec .frontClearActive s = .next (s.sense .frontClear true).finish ∧
    exec .loadInPlaceInactive s = .next (s.sense .loadInPlace false).finish ∧
    exec .reamHeldInactive s = .next (s.sense .reamHeld false).finish ∧
    (s.runner.inPhase .awaitStart = false ∨ s.guillotineHalt = false → startRevoked s = none) ∧
    (s.runner.inPhase .awaitStart = true → s.guillotineHalt = true →
      let back : State := s.setRunner { s.runner with phase := some .prepare, faultBack := true }
      (s.cycle.state ≠ .waitGrant ∨ s.cycle.purpose ≠ some .cut → startRevoked s = some back) ∧
      (s.cycle.state = .waitGrant → s.cycle.purpose = some .cut →
        startRevoked s =
          some
            ((back.setCycle
              { s.cycle with
                state := if s.cycle.returnState = .ready then .ready else .returnNeeded
                purpose := if s.cycle.returnState = .ready then none else some .cut
                monitor := if s.cycle.monitor = .engaged then .spent else s.cycle.monitor
                windowTimer :=
                  if s.cycle.monitor = .engaged then Timer.stopped else s.cycle.windowTimer }).setArbiter
              { s.arbiter with cut := none }))) ∧
    (∀ (t : CutStep) (n : Nat) (d : Disposition) (plate : Bool), s.runner.inPhase .prepare = true →
      s.theStep = some t → t.action = .cut n d plate →
      (s.runner.faultBack = false → plate = true → s.on .plateFitted = false → prepareLeave s = none) ∧
      (s.runner.faultBack = false → plate = false ∨ s.on .plateFitted = true →
        prepareLeave s = some (s.setRunner { s.runner with phase := some .positioning })) ∧
      (s.runner.faultBack = true → s.guillotineHalt = true → prepareLeave s = none) ∧
      (s.runner.faultBack = true → s.guillotineHalt = false →
        prepareLeave s =
          some
            (if plate = true ∧ s.on .plateFitted = false then
              (s.setRunner { s.runner with faultBack := false, phase := some .prepare }).setLink
                (s.link.offer (.wait .plate))
            else s.setRunner { s.runner with faultBack := false, phase := some .positioning }))) ∧
    (s.runner.inPhase .takeaway = false ∨ s.on .frontClear = false → takeawayEnd s = none) ∧
    (∀ (t : CutStep) (c : CutOff) (l : CurrentLift), s.runner.inPhase .takeaway = true → s.on .frontClear = true →
      s.theStep = some t → s.runner.cutoff = some c → s.runner.lift = some l →
      let first : Bool := c.disp = .output && s.runner.tally.outputs = 0 && s.firstOffJob
      let done : Link :=
        s.link.offer
          (.step l.job l.lift t.index t.action.kind .done (s.runner.moveResult.getD ⟨false, 0, 0⟩))
      ∃ u : State, takeawayEnd s = some u ∧
        StepCompletes
          ((s.setRunner
            { s.runner with
              cutoff := none
              aside :=
                if c.disp = .aside then
                  s.runner.aside ++
                    [⟨c.stack.job, c.stack.lift, c.stack.strip, c.stack.along, c.stack.across, c.stack.height,
                      c.stack.orient⟩]
                else s.runner.aside
              tally :=
                { s.runner.tally with
                  outputs := s.runner.tally.outputs + (if c.disp = .output then 1 else 0)
                  waste := s.runner.tally.waste + (if c.disp = .waste then 1 else 0) }
              firstOff := s.runner.firstOff || first }).setLink
            (if first then done.offer (.wait .inspect) else done)) u) ∧
    (s.runner.state = .liftEnd →
      (s.on .loadInPlace = true ∨ s.on .frontClear = false → liftEndLeave s = none) ∧
      (s.on .loadInPlace = false → s.on .frontClear = true →
        liftEndLeave s = some (s.setRunner { s.runner with state := .idle, ended := none }))) ∧
    (s.infeed.lift = .clearance → s.infeed.clearReturn = false → s.infeed.liftOrphan = none →
      (s.on .reamHeld = true → liftClearing s = none) ∧
      (s.on .reamHeld = false → liftClearing s = some (s.setInfeed { s.infeed with clearReturn := true })))

/-- O47. The ask of the handover park, the beginning of a transfer and its end without load are reactions of the part
(log 6). An IDLE Runner asks the park to the smaller of sheet along plus park clearance and Gmax, for the lift of a
RUNNING job that the Jogger receives or holds, unless its park or its ask names that lift already; not during a
stop, a guillotine station fault or FAULTED. An IDLE axis starts the move at once; an UNREFERENCED one makes a
reference run first, with the move pending; one in motion takes the move in place of its own, or keeps it pending in
a reference run. A transfer begins exactly when the Jogger is ALIGNED with the pusher home, the Runner IDLE with an
empty Aside List and the park for that lift, FRONT_CLEAR active and no stop: the Jogger is HANDING in PUSH with the
pusher going forward and a fresh transfer timer, the Runner LOADING without a park. LOAD_IN_PLACE_ACTIVE in PUSH or
TIMED_OUT, or found active at the beginning, completes it: the Jogger has no lift, and its pusher goes back in
RETURN, a pause in progress going on; or, where PUSHER_HOME is active, the Jogger is EMPTY at once (R153; in PUSH
and at the beginning the model's choice, log 14). The Runner loads the lift as the Working Stack at step 0 (with the
lift's height as it is: log 45), its bank IN_USE if it was READY, and the first step begins or is HELD. TIMED_OUT
with TRANSFER_TIMEOUT gone and LOAD_IN_PLACE inactive ends without load: jogging starts anew at the base intensity,
the re-jog unused, and the LOADING Runner is IDLE. -/
def Obligations.LiftsAreParkedForAndHandedOver : Prop :=
  TakenAt 6 transferAbandoned ∧ TakenAt 15 transferBegin ∧ TakenAt 17 askHandover ∧
  let comesHome : State → Jogger → Jogger → Prop := fun s j k =>
    (s.on .pusherHome = true →
      k = { j with state := .empty, phase := .none, pusher := .hold, paused := false, clearTimer := Timer.stopped }) ∧
    (s.on .pusherHome = false →
      k =
        { j with
          phase := .ret
          pusher := .back
          paused := s.on .curtain || j.paused
          clearTimer := if j.paused && !s.on .curtain then j.clearTimer else Timer.stopped })
  let loads : State → State → LiftRec → JobEntry → BankId → Prop := fun b u l e bk =>
    let r : Runner :=
      { b.runner with
        lift := some ⟨l.job, l.lift, bk⟩
        tally := ⟨0, 0, 0, 0, 0⟩
        working := some ⟨l.job, l.lift, 0, e.record.sheetL, e.record.sheetW, l.height, ⟨.grip, .up⟩, false⟩
        cutoff := none
        stepIndex := 0
        lastDone := false }
    let c : State :=
      (b.setBank bk
        { b.bank bk with state := if (b.bank bk).state = .ready then .inUse else (b.bank bk).state }).setRunner r
    if b.runner.hold = true ∨ b.runner.firstOff = true then
      u = c.setRunner { r with state := .held, phase := none }
    else StepBegins c u
  ∀ s : State,
    (∀ (l : LiftRec) (e : JobEntry),
      (s.jogger.state = .receiving ∧ s.infeed.held = some l) ∨
        ((s.jogger.state = .jogging ∨ s.jogger.state = .aligned ∨ s.jogger.state = .failed ∨
            s.jogger.state = .handing) ∧ s.jogger.lift = some l) →
      s.entry l.job = some e →
      let pos : Nat := min (e.record.sheetL + s.store.consts.parkClearance) s.store.consts.gmax
      (s.runner.state ≠ .idle ∨ s.stop = true ∨ s.guillotineHalt = true ∨ s.gauge.state = .faulted ∨
          e.state ≠ .running ∨ s.runner.park = some ⟨l.job, l.lift⟩ ∨
          s.runner.asked = some (.handover ⟨l.job, l.lift⟩) →
        askHandover s = none) ∧
      (s.runner.state = .idle → s.stop = false → s.guillotineHalt = false → s.gauge.state ≠ .faulted →
        e.state = .running → s.runner.park ≠ some ⟨l.job, l.lift⟩ →
        s.runner.asked ≠ some (.handover ⟨l.job, l.lift⟩) →
        ∃ t : State, askHandover s = some t ∧ SameBut [.runner, .gauge] s t ∧
          t.runner = { s.runner with asked := some (.handover ⟨l.job, l.lift⟩) } ∧ MoveAsked s t (.park pos) ∧
          t.gauge.inMotion = true)) ∧
    (s.jogger.state ≠ .aligned ∨ s.on .pusherHome = false ∨ s.runner.state ≠ .idle ∨ s.runner.aside ≠ [] ∨
        s.on .frontClear = false ∨ s.stop = true ∨
        (∀ l, s.jogger.lift = some l → s.runner.park ≠ some ⟨l.job, l.lift⟩) →
      transferBegin s = none) ∧
    (∀ l : LiftRec, s.jogger.state = .aligned → s.on .pusherHome = true → s.runner.state = .idle →
      s.runner.aside = [] → s.on .frontClear = true → s.stop = false → s.jogger.lift = some l →
      s.runner.park = some ⟨l.job, l.lift⟩ → s.jogger.paused = false →
      (s.on .loadInPlace = false →
        transferBegin s =
          some
            ((s.setJogger
              { s.jogger with
                state := .handing
                phase := .push
                transferTimer := ⟨true, 0, s.store.consts.transferLimit * 100⟩
                pusher := .forward
                paused := s.on .curtain
                clearTimer := Timer.stopped }).setRunner
              { s.runner with state := .loading, park := none, asked := none })) ∧
      (∀ (e : JobEntry) (bk : BankId), s.on .loadInPlace = true → s.entry l.job = some e → e.bank = some bk →
        ∃ (b u : State), transferBegin s = some u ∧ SameBut [.runner, .jogger] s b ∧
          b.runner = { s.runner with state := .loading, park := none, asked := none } ∧ b.jogger.lift = none ∧
          b.jogger.state = .empty ∧ b.jogger.phase = .none ∧ b.jogger.pusher = .hold ∧ loads b u l e bk)) ∧
    (s.jogger.phase = .none ∨ s.jogger.phase = .ret →
      exec .loadInPlaceActive s = .next (s.sense .loadInPlace true).finish) ∧
    (∀ (l : LiftRec) (e : JobEntry) (bk : BankId), s.jogger.phase = .push ∨ s.jogger.phase = .timedOut →
      s.jogger.lift = some l → s.runner.state = .loading → s.entry l.job = some e → e.bank = some bk →
      ∃ (b u : State), exec .loadInPlaceActive s = .next u.finish ∧ SameBut [.jogger, .inputs] s b ∧
        b.on .loadInPlace = true ∧ (∀ x, x ≠ .loadInPlace → b.on x = s.on x) ∧
        comesHome s
          { s.jogger with
            lift := none
            intensity := 0
            phase := .ret
            transferTimer := { s.jogger.transferTimer with running := false } } b.jogger ∧
        loads b u l e bk) ∧
    (s.jogger.phase ≠ .timedOut ∨ s.faults.transferTimeout = true ∨ s.on .loadInPlace = true →
      transferAbandoned s = none) ∧
    (s.jogger.phase = .timedOut → s.faults.transferTimeout = false → s.on .loadInPlace = false →
      ∃ t : State, transferAbandoned s = some t ∧ SameBut [.runner, .jogger] s t ∧
        t.runner = (if s.runner.state = .loading then { s.runner with state := .idle } else s.runner) ∧
        BaseJogStarts ((s.setRunner t.runner).setJogger { s.jogger with phase := .none }) t)

/-- O48. PILE_PRESENT_ACTIVE takes its input and the reading. In CALLING for a job of the table with no rejected pile, a
reading of 50 to 16,000 tenths takes the pile in: turning starts with the motion list of the job's load orientation,
the pile record holds the reading and its division, and the job is RUNNING with its JOB notice. Any other reading
marks the pile rejected and latches PILE_BAD if it is not latched, with its FAULT notice and the Infeed's halt
(R125, R174): both units' motions are interrupted and stay owed (log 16), and both give back the unit or withdraw
their requests. Outside CALLING, or in CALLING with a pile already rejected, nothing else changes before the part
settles (in EXHAUSTED and CLEARANCE by log 32; EMPTY then goes to CLEARANCE, R126). The motion list brings every
orientation to GRIP rear, face UP, and begins with CLAMP_PILE and ends with UNCLAMP. PILE_PRESENT_INACTIVE in
TURNING or READY marks the pile lost and latches PILE_BAD with the same halt; with PILE_BAD latched already, only
the mark is made; in EXHAUSTED the Turner is EMPTY without a pile, the pile-lost mark no (log 41); otherwise nothing
else changes before the part settles. Two reactions of the part (log 6) follow: an EMPTY Turner with PILE_PRESENT
active goes to CLEARANCE, the rejected-pile mark no, with its WAIT notice CLEARANCE; and the mark becomes no exactly
when PILE_PRESENT is inactive and PILE_BAD is out of the set, in CALLING with a fresh WAIT notice PILE naming the
called job (one called after the rejected pile's: log 47). -/
def Obligations.PilesArriveAndLeave : Prop :=
  (∀ o : Orientation,
      (motionsFor o).foldl (fun x m => m.apply x) o = ⟨.grip, .up⟩ ∧ (motionsFor o).head? = some .clampPile ∧
        (motionsFor o).getLast? = some .unclamp) ∧
    (∀ (p : Nat) (s : State),
      (s.infeed.turner ≠ .calling ∨ s.infeed.rejected = true →
        exec (.pilePresentActive p) s =
          .next ((s.sense .pilePresent true).setChannels { s.channels with pileTop := p }).finish) ∧
      (∀ (n : Nat) (e : JobEntry), s.infeed.turner = .calling → s.infeed.rejected = false →
        s.infeed.called = some n → s.entry n = some e →
        (50 ≤ p → p ≤ 16000 →
          ∃ u : State, exec (.pilePresentActive p) s = .next u.finish ∧
            SameBut [.link, .jobs, .infeed, .inputs, .channels] s u ∧ u.on .pilePresent = true ∧
            (∀ x, x ≠ .pilePresent → u.on x = s.on x) ∧ u.channels = { s.channels with pileTop := p } ∧
            u.infeed =
              { s.infeed with
                turner := .turning
                called := none
                pile := some (pileAtIntake s.store.consts.hmax e.record p)
                motions := motionsFor ⟨e.record.rear, e.record.face⟩ } ∧
            u.jobs = s.jobs.map (fun x => if x.record.number = n then { x with state := .running } else x) ∧
            u.link = s.link.offer (.job n .running .none)) ∧
        ((p < 50 ∨ 16000 < p) →
          let b : State :=
            ((s.sense .pilePresent true).setChannels { s.channels with pileTop := p }).setInfeed
              { s.infeed with rejected := true }
          (s.faults.pileBad = false →
            ∃ u : State, exec (.pilePresentActive p) s = .next u.finish ∧
              InfeedFault b u { s.faults with pileBad := true }) ∧
          (s.faults.pileBad = true → exec (.pilePresentActive p) s = .next b.finish))) ∧
      (s.infeed.turner = .turning ∨ s.infeed.turner = .ready →
        let b : State := (s.sense .pilePresent false).setInfeed { s.infeed with pileLost := true }
        (s.faults.pileBad = false →
          ∃ u : State, exec .pilePresentInactive s = .next u.finish ∧
            InfeedFault b u { s.faults with pileBad := true } ∧ u.turnerValves = none ∧ u.liftValves = none) ∧
        (s.faults.pileBad = true → exec .pilePresentInactive s = .next b.finish)) ∧
      (s.infeed.turner = .exhausted →
        exec .pilePresentInactive s =
          .next
            ((s.sense .pilePresent false).setInfeed
              { s.infeed with turner := .empty, pile := none, pileLost := false }).finish) ∧
      (s.infeed.turner = .empty ∨ s.infeed.turner = .calling ∨ s.infeed.turner = .clearance →
        exec .pilePresentInactive s = .next (s.sense .pilePresent false).finish)) ∧
    TakenAt 8 rejectedOver ∧ TakenAt 10 emptyOccupied ∧ ∀ s : State,
      (emptyOccupied s =
        if s.infeed.turner = .empty ∧ s.on .pilePresent = true then
          some
            ((s.setInfeed { s.infeed with turner := .clearance, rejected := false, unclamped := false }).setLink
              (s.link.offer (.wait (.clearance .infeed))))
        else none) ∧
      (s.infeed.rejected = false ∨ s.on .pilePresent = true ∨ s.faults.pileBad = true → rejectedOver s = none) ∧
      (s.infeed.rejected = true → s.on .pilePresent = false → s.faults.pileBad = false →
        let ended : State := s.setInfeed { s.infeed with rejected := false }
        (∀ n, s.infeed.turner = .calling → s.infeed.called = some n →
          rejectedOver s = some (ended.setLink (s.link.offer (.wait (.pile n))))) ∧
        (s.infeed.turner ≠ .calling ∨ s.infeed.called = none → rejectedOver s = some ended))

/-- O49. After a counted pick with new remaining height R: below 50 tenths, or with no lift to go after 64, the pile is
exhausted; otherwise one lift is added where none is to go, the count grows to picked plus ceil(R / Hd) (at most 64)
where R is above m times Hd, and base and r divide R over the lifts to go. A PICK done with R below 50 makes the
Turner EXHAUSTED with the lift held (its height not bounded: log 45), and the final lift count of the job is the
lifts picked, which makes it DONE if so many are completed. Putting back a lost pile is a reaction of the part (log
6), due with the pile-lost mark, PILE_PRESENT active and PILE_BAD out of the set; the mark becomes no unless the
reading is refused. In TURNING, and in READY before any pick, a reading of 50 to 16,000 replaces P and R and the
division is made again, in TURNING with a new motion list, and the done of a Turner motion that holds the grant then
changes no record (log 15); another latches PILE_BAD again, with its FAULT notice and the Infeed's halt (R125,
R174), and the mark stays. In READY after a pick the reading is the new remaining height, divided again; where that
exhausts the pile, an owed PICK is dropped, the Lift unit RETURNING without a request, and a PICK that holds the
grant runs to a done that changes no record (log 15). In any other state only the mark changes. -/
def Obligations.PilesRunOutAndComeBack : Prop :=
  (∀ p : PileRec, 0 < p.limit → p.picked ≤ p.count → p.count ≤ 64 →
      let toGo : Nat := if p.count = p.picked then 1 else p.count - p.picked
      let ceil : Nat := if p.remaining % p.limit = 0 then p.remaining / p.limit else p.remaining / p.limit + 1
      let m : Nat := if toGo * p.limit < p.remaining then min ceil (64 - p.picked) else toGo
      (p.remaining < 50 ∨ (p.count = p.picked ∧ p.picked = 64) → p.redivide = { p with exhausted := true }) ∧
      (50 ≤ p.remaining → p.picked < 64 →
        p.redivide = { p with count := p.picked + m, base := p.remaining / m, extra := p.remaining % m })) ∧
    (∀ (s : State) (r : Nat) (q : PileRec), s.arbiter.holder = some .lift → s.infeed.liftOrphan = none →
      s.infeed.lift = .picking → s.infeed.pile = some q → r < 50 →
      ∃ u : State, exec (.motionDone .lift true r) s = .next u.finish ∧
        SameBut [.link, .jobs, .bankA, .bankB, .infeed, .arbiter]
          (((s.sense .liftDone true).sense .reamHeld true).setChannels { s.channels with pileTop := r }) u ∧
        u.arbiter = { s.arbiter with unit := freeUnit (s.on .hydReady), holder := none } ∧
        u.infeed =
          { s.infeed with
            turner := .exhausted
            lift := .holding
            held := some ⟨q.job, q.picked + 1, q.remaining - r⟩
            failedPicks := 0
            liftTimer := Timer.stopped
            pickHeight := none
            pile := some { q with remaining := r, picked := q.picked + 1, exhausted := true } } ∧
        FiguresTaken s u q.job fun e => { e with finalCount := some (q.picked + 1) }) ∧
    TakenAt 7 pileBack ∧
    ∀ s : State,
      (s.infeed.pileLost = false ∨ s.on .pilePresent = false ∨ s.faults.pileBad = true → pileBack s = none) ∧
      (s.infeed.pileLost = true → s.on .pilePresent = true → s.faults.pileBad = false →
        (s.infeed.turner ≠ .turning → s.infeed.turner ≠ .ready →
          pileBack s = some (s.setInfeed { s.infeed with pileLost := false })) ∧
        ∀ (q : PileRec) (e : JobEntry), s.infeed.pile = some q → s.entry q.job = some e → 0 < q.limit →
          let r : Nat := s.channels.pileTop
          let whole : Nat := if r % q.limit = 0 then r / q.limit else r / q.limit + 1
          let n : Nat :=
            min 64
              (match e.record.fixedCount with
              | some k => if k * q.limit < r then whole else k
              | none => whole)
          let again : PileRec := { q with height := r, remaining := r, count := n, base := r / n, extra := r % n }
          (s.infeed.turner = .turning ∨ (s.infeed.turner = .ready ∧ q.picked = 0) → 50 ≤ r ∧ r ≤ 16000 →
            pileBack s =
              some
                (s.setInfeed
                  { s.infeed with
                    pileLost := false
                    pile := some again
                    motions := if s.infeed.turner = .turning then motionsFor q.orient else s.infeed.motions
                    turnerOrphan :=
                      if s.infeed.turner = .turning then
                        if s.arbiter.holder = some .turn then s.infeed.turnerMotion else none
                      else s.infeed.turnerOrphan })) ∧
          (s.infeed.turner = .turning ∨ (s.infeed.turner = .ready ∧ q.picked = 0) → r < 50 ∨ 16000 < r →
            ∃ t : State, pileBack s = some t ∧ InfeedFault s t { s.faults with pileBad := true } ∧
              t.infeed.pileLost = true ∧ t.infeed.pile = some q) ∧
          (s.infeed.turner = .ready → 0 < q.picked →
            let p : PileRec := PileRec.redivide { q with remaining := r }
            (p.exhausted = false →
              pileBack s = some (s.setInfeed { s.infeed with pileLost := false, pile := some p })) ∧
            (p.exhausted = true →
              ∃ t : State, pileBack s = some t ∧ SameBut [.link, .jobs, .bankA, .bankB, .infeed, .arbiter] s t ∧
                (s.infeed.lift = .picking →
                  t.arbiter = { s.arbiter with lift := none } ∧
                    t.infeed =
                      { s.infeed with
                        pileLost := false
                        turner := .exhausted
                        pile := some p
                        lift := .returning
                        returnJob := none
                        liftOrphan := if s.arbiter.holder = some .lift then some .pick else none }) ∧
                (s.infeed.lift ≠ .picking →
                  t.arbiter = s.arbiter ∧
                    t.infeed = { s.infeed with pileLost := false, turner := .exhausted, pile := some p }) ∧
                FiguresTaken s t q.job fun x => { x with finalCount := some q.picked })))

/-- O50. A done of a unit that does not hold the grant takes its inputs and the reading and nothing else. Of the Turner
in TURNING, it takes the first motion off the list, turns the pile's record by it and releases the grant; with the
list empty the Turner is READY. Of the Lift unit: a PICK with a ream held gives the lift record (job, next lift
number, height by the two readings, not bounded: log 45), one pick more and the new remaining height, divided anew
by R132 (the statement before this one says what that makes of count, base and extra); where that exhausts the pile,
the Turner is EXHAUSTED and the job gets its final lift count; a PICK without one is a failed pick, the height
divided over the same lifts to go, the second in a row latching MOTION_TIMEOUT with its FAULT notice and the
Infeed's halt; a DEPOSIT passes the lift to a RECEIVING Jogger, which starts jogging at the base intensity of the
snapshot with the re-jog unused; a RETURN leaves the unit IDLE, none owed. A motion whose done changes no record (of
a unit sent to CLEARANCE while it ran) only gives back the grant. In CLEARANCE the Turner's UNCLAMP done lets it go
to EMPTY once the pallet is gone, and the Lift unit's RETURN done leaves it IDLE. An IDLE Lift unit at a READY pile
makes an owed RETURN or else a PICK, and a HOLDING one its DEPOSIT as the Jogger is EMPTY, neither during a stop or
the Infeed's halt. The units raise their requests for what they owe, unless they hold the grant, have a request
pending, or a stop or the Infeed's halt is in force; these beginnings, the requests, and the Turner's leave of
CLEARANCE, are reactions of the part (log 6). MOTION_TIMER_EXPIRY of a running timer latches MOTION_TIMEOUT with its
FAULT notice: both units stop and give back the grant or withdraw their requests, and the motions stay owed (one
whose done would change no record is discarded, log 16). With no running timer, or MOTION_TIMEOUT latched, it
changes nothing before the part settles. -/
def Obligations.InfeedMotionsComplete : Prop :=
  let sensed : InfeedUnit → Bool → Nat → State → State := fun x ream p s =>
    ((s.sense (unitDone x) true).sense .reamHeld ream).setChannels { s.channels with pileTop := p }
  TakenAt 9 turnerCleared ∧ TakenAt 22 liftStart ∧ TakenAt 23 depositStart ∧ TakenAt 24 raiseTurn ∧
  TakenAt 25 raiseLift ∧ ∀ (s : State),
    let freed : Arbiter := { s.arbiter with unit := freeUnit (s.on .hydReady), holder := none }
    (∀ (x : InfeedUnit) (ream : Bool) (p : Nat), s.arbiter.holder ≠ some (unitRequester x) →
      exec (.motionDone x ream p) s = .next (sensed x ream p s).finish) ∧
    (∀ (ream : Bool) (p : Nat) (m : InfeedMotion) (rest : List InfeedMotion), s.arbiter.holder = some .turn →
      s.infeed.turner = .turning → s.infeed.turnerOrphan = none → s.infeed.motions = m :: rest →
      ∃ u : State, exec (.motionDone .turner ream p) s = .next u.finish ∧
        SameBut [.infeed, .arbiter] (sensed .turner ream p s) u ∧
        u.infeed =
          { s.infeed with
            turner := if rest = [] then .ready else .turning
            motions := rest
            pile := s.infeed.pile.map fun q => { q with orient := m.apply q.orient }
            turnerTimer := Timer.stopped } ∧
        u.arbiter = freed) ∧
    (∀ (ream : Bool) (p : Nat), s.arbiter.holder = some .lift → s.infeed.liftOrphan = none →
      let stood : Infeed := { s.infeed with liftTimer := Timer.stopped, pickHeight := none }
      (∀ q, s.infeed.lift = .picking → s.infeed.pile = some q → ream = true →
        let r : PileRec := PileRec.redivide { q with remaining := p, picked := q.picked + 1 }
        let holding : Infeed :=
          { stood with
            lift := .holding
            held := some ⟨q.job, q.picked + 1, q.remaining - p⟩
            failedPicks := 0
            pile := some r }
        (r.exhausted = false →
          ∃ u : State, exec (.motionDone .lift ream p) s = .next u.finish ∧
            SameBut [.infeed, .arbiter] (sensed .lift ream p s) u ∧ u.arbiter = freed ∧ u.infeed = holding) ∧
        (r.exhausted = true →
          ∃ u : State, exec (.motionDone .lift ream p) s = .next u.finish ∧
            SameBut [.link, .jobs, .bankA, .bankB, .infeed, .arbiter] (sensed .lift ream p s) u ∧
            u.arbiter = freed ∧ u.infeed = { holding with turner := .exhausted } ∧
            FiguresTaken s u q.job fun e => { e with finalCount := some (q.picked + 1) })) ∧
      (∀ q, s.infeed.lift = .picking → s.infeed.pile = some q → ream = false →
        let missed : Infeed :=
          { stood with
            lift := .returning
            returnJob := none
            pile :=
              some
                { q with
                  remaining := p
                  base := p / (q.count - q.picked)
                  extra := p % (q.count - q.picked) } }
        (s.infeed.failedPicks = 0 →
          ∃ u : State, exec (.motionDone .lift ream p) s = .next u.finish ∧
            SameBut [.infeed, .arbiter] (sensed .lift ream p s) u ∧ u.arbiter = freed ∧
            u.infeed = { missed with failedPicks := 1 }) ∧
        (s.infeed.failedPicks = 1 →
          ∃ b : State, SameBut [.infeed, .arbiter] (sensed .lift ream p s) b ∧ b.arbiter = freed ∧
            b.infeed = { missed with failedPicks := 0 } ∧
            (s.faults.motionTimeout = false →
              ∃ u : State, exec (.motionDone .lift ream p) s = .next u.finish ∧
                InfeedFault b u { s.faults with motionTimeout := true }) ∧
            (s.faults.motionTimeout = true → exec (.motionDone .lift ream p) s = .next b.finish))) ∧
      (s.infeed.lift = .depositing →
        let given : Infeed :=
          { stood with lift := .returning, held := none, returnJob := s.infeed.held.map LiftRec.job }
        (s.jogger.state = .receiving →
          ∃ b u : State, exec (.motionDone .lift ream p) s = .next u.finish ∧
            SameBut [.infeed, .jogger, .arbiter] (sensed .lift ream p s) b ∧ b.arbiter = freed ∧
            b.infeed = given ∧ b.jogger = { s.jogger with lift := s.infeed.held, receivingFor := none } ∧
            BaseJogStarts b u) ∧
        (s.jogger.state ≠ .receiving →
          ∃ u : State, exec (.motionDone .lift ream p) s = .next u.finish ∧
            SameBut [.infeed, .arbiter] (sensed .lift ream p s) u ∧ u.arbiter = freed ∧ u.infeed = given)) ∧
      (s.infeed.lift = .returning ∨ s.infeed.lift = .clearance →
        ∃ u : State, exec (.motionDone .lift ream p) s = .next u.finish ∧
          SameBut [.infeed, .arbiter] (sensed .lift ream p s) u ∧ u.arbiter = freed ∧
          u.infeed = { stood with lift := .idle, returnOwed := false, returnJob := none, clearReturn := false })) ∧
    (∀ (ream : Bool) (p : Nat),
      (s.arbiter.holder = some .turn → s.infeed.turnerOrphan.isSome = true →
        ∃ u : State, exec (.motionDone .turner ream p) s = .next u.finish ∧
          SameBut [.infeed, .arbiter] (sensed .turner ream p s) u ∧ u.arbiter = freed ∧
          u.infeed = { s.infeed with turnerTimer := Timer.stopped, turnerOrphan := none }) ∧
      (s.arbiter.holder = some .turn → s.infeed.turnerOrphan = none → s.infeed.turner = .clearance →
        ∃ u : State, exec (.motionDone .turner ream p) s = .next u.finish ∧
          SameBut [.infeed, .arbiter] (sensed .turner ream p s) u ∧ u.arbiter = freed ∧
          u.infeed = { s.infeed with turnerTimer := Timer.stopped, unclamped := true }) ∧
      (s.arbiter.holder = some .lift → s.infeed.liftOrphan.isSome = true →
        ∃ u : State, exec (.motionDone .lift ream p) s = .next u.finish ∧
          SameBut [.infeed, .arbiter] (sensed .lift ream p s) u ∧ u.arbiter = freed ∧
          u.infeed = { s.infeed with liftTimer := Timer.stopped, pickHeight := none, liftOrphan := none })) ∧
    (turnerCleared s =
      if s.infeed.turner = .clearance ∧ s.infeed.unclamped = true ∧ s.on .pilePresent = false then
        some (s.setInfeed { s.infeed with turner := .empty, unclamped := false })
      else none) ∧
    (liftStart s =
      if s.infeed.lift = .idle ∧ s.infeed.turner = .ready ∧ s.stop = false ∧ s.infeedHalt = false then
        some
          (s.setInfeed
            { s.infeed with lift := if s.infeed.returnOwed then .returning else .picking, returnJob := none })
      else none) ∧
    (depositStart s =
      if s.infeed.lift = .holding ∧ s.jogger.state = .empty ∧ s.stop = false ∧ s.infeedHalt = false then
        some (s.setInfeed { s.infeed with lift := .depositing })
      else none) ∧
    (raiseTurn s =
      if ((s.infeed.turner = .turning ∧ s.infeed.motions ≠ []) ∨
            (s.infeed.turner = .clearance ∧ s.infeed.unclamped = false)) ∧
          s.infeed.turnerOrphan = none ∧ s.arbiter.holder ≠ some .turn ∧ s.arbiter.turn = none ∧ s.stop = false ∧
          s.infeedHalt = false then
        some (s.setArbiter { s.arbiter with turn := some 0 })
      else none) ∧
    (raiseLift s =
      if (s.infeed.lift = .picking ∨ s.infeed.lift = .depositing ∨ s.infeed.lift = .returning ∨
            (s.infeed.lift = .clearance ∧ s.infeed.clearReturn = true)) ∧
          s.infeed.liftOrphan = none ∧ s.arbiter.holder ≠ some .lift ∧ s.arbiter.lift = none ∧ s.stop = false ∧
          s.infeedHalt = false then
        some (s.setArbiter { s.arbiter with lift := some 0 })
      else none) ∧
    (∀ x : InfeedUnit,
      ((s.infeed.timerOf x).running = true → s.faults.motionTimeout = false →
        ∃ u : State, exec (.motionTimerExpiry x) s = .next u.finish ∧
          InfeedFault s u { s.faults with motionTimeout := true }) ∧
      ((s.infeed.timerOf x).running = false ∨ s.faults.motionTimeout = true →
        exec (.motionTimerExpiry x) s = .next s.finish))

/-- O51. At a scan's end the counts, kept at the top of their counters, are the last scan's. If every channel's scaled
count reaches its threshold the pass count goes up, to ALIGNED at the required number, with timer and scan stopped;
otherwise it is 0; a next scan begins unless ALIGNED. Outside JOGGING, or with no scan in progress, nothing changes
before the part settles. Two reactions of the part (log 6) start jogging: once no stop is left, jogging halted by a
stop starts again at the intensity and re-jog status it had; and a FAILED Jogger, once JOG_FAILED has left the set,
starts as with a lift handed over, at the base intensity of the snapshot with the re-jog unused. A jog timer's
expiry with the re-jog available starts a re-jog one intensity higher (at most 4); with it used the Jogger is FAILED
with its lift, the scan discarded and the pass count 0, with JOG_FAILED latched (its FAULT notice, unless it is
latched already) and WAIT notice JOG_OK queued; outside JOGGING, or with no jog timer running, it changes nothing.
JOG_OK in FAILED makes the lift ALIGNED, and in any state removes JOG_FAILED with a FAULT notice; in CLEARANCE with
no lift present it ends in EMPTY if the pusher is home and sends the pusher back otherwise, paused while the curtain
is broken; one that goes back already goes on. -/
def Obligations.JoggingScansAndFails : Prop :=
  (∀ (n : EdgeCounts) (r : ScanRun) (s : State), s.jogger.state = .jogging → s.jogger.scan = some r →
      let top : Nat := 2 ^ r.res - 1
      let c : EdgeCounts := ⟨min n.rf1 top, min n.rf2 top, min n.rf3 top, min n.sf1 top, min n.sf2 top⟩
      let k : EdgeCounts := s.store.consts.edges
      let f : Nat := 2 ^ (16 - r.res)
      let pass : Prop :=
        k.rf1 ≤ c.rf1 * f ∧ k.rf2 ≤ c.rf2 * f ∧ k.rf3 ≤ c.rf3 * f ∧ k.sf1 ≤ c.sf1 * f ∧ k.sf2 ≤ c.sf2 * f
      ∃ u : State, exec (.edgeScanEnd n) s = .next u.finish ∧ SameBut [.jogger] s u ∧
        (pass → s.jogger.pass + 1 = s.store.consts.na →
          u.airOutput = false ∧
            u.jogger =
              { s.jogger with
                state := .aligned
                lastScan := some c
                pass := s.jogger.pass + 1
                jogTimer := Timer.stopped
                scan := none }) ∧
        (pass → s.jogger.pass + 1 ≠ s.store.consts.na →
          u.jogger =
            { s.jogger with
              lastScan := some c
              pass := s.jogger.pass + 1
              scan := some ⟨s.store.consts.res, ⟨0, 0, 0, 0, 0⟩, ⟨true, 0, 25⟩⟩ }) ∧
        (¬pass →
          u.jogger =
            { s.jogger with
              lastScan := some c
              pass := 0
              scan := some ⟨s.store.consts.res, ⟨0, 0, 0, 0, 0⟩, ⟨true, 0, 25⟩⟩ })) ∧
    (∀ (n : EdgeCounts) (s : State), s.jogger.state ≠ .jogging ∨ s.jogger.scan = none →
      exec (.edgeScanEnd n) s = .next s.finish) ∧
    TakenAt 4 jogRestart ∧ TakenAt 5 jogRetry ∧ ∀ s : State,
      (s.jogger.state ≠ .jogging ∨ s.jogger.jogTimer.running = true ∨ s.stop = true → jogRestart s = none) ∧
      (s.jogger.state = .jogging → s.jogger.jogTimer.running = false → s.stop = false →
        ∃ u : State, jogRestart s = some u ∧ JogStarts s u s.jogger.intensity s.jogger.rejogUsed) ∧
      (s.jogger.state ≠ .failed ∨ s.faults.jogFailed = true → jogRetry s = none) ∧
      (s.jogger.state = .failed → s.faults.jogFailed = false →
        ∃ u : State, jogRetry s = some u ∧ BaseJogStarts s u) ∧
      (s.jogger.state = .jogging → s.jogger.jogTimer.running = true →
        (s.jogger.rejogUsed = false → s.stop = false →
          ∃ u : State, exec .jogTimerExpiry s = .next u.transmit ∧
            JogStarts s u (min (s.jogger.intensity + 1) 4) true) ∧
        (s.jogger.rejogUsed = true →
          ∃ u : State, exec .jogTimerExpiry s = .next u.transmit ∧ SameBut [.link, .jogger, .faults] s u ∧
            u.airOutput = false ∧
            u.jogger = { s.jogger with state := .failed, jogTimer := Timer.stopped, scan := none, pass := 0 } ∧
            u.faults = { s.faults with jogFailed := true } ∧
            u.link =
              (if s.faults.jogFailed then s.link
              else s.link.offer (.fault { s.faults with jogFailed := true })).offer (.wait .jogOk))) ∧
      (s.jogger.state ≠ .jogging ∨ s.jogger.jogTimer.running = false →
        exec .jogTimerExpiry s = .next s.transmit) ∧
      (∀ present : Bool,
        ∃ u : State, exec (.jogOk present) s = .next u.finish ∧ SameBut [.link, .jogger, .inputs, .faults] s u ∧
          u.on .jogOk = true ∧ u.on .liftPresent = present ∧
          (∀ x, x ≠ .jogOk → x ≠ .liftPresent → u.on x = s.on x) ∧
          u.faults = { s.faults with jogFailed := false } ∧
          u.link =
            (if s.faults.jogFailed then s.link.offer (.fault { s.faults with jogFailed := false }) else s.link) ∧
          (s.jogger.state = .failed → u.jogger = { s.jogger with state := .aligned }) ∧
          (s.jogger.state ≠ .failed → s.jogger.state ≠ .clearance → u.jogger = s.jogger) ∧
          (s.jogger.state = .clearance →
            (present = true → u.jogger = s.jogger) ∧
            (present = false → s.on .pusherHome = true →
              u.jogger =
                { s.jogger with
                  state := .empty
                  phase := .none
                  pusher := .hold
                  paused := false
                  clearTimer := Timer.stopped }) ∧
            (present = false → s.on .pusherHome = false →
              u.jogger =
                (if s.jogger.pusher = .back then s.jogger
                else
                  { s.jogger with
                    pusher := .back
                    paused := s.on .curtain || s.jogger.paused
                    clearTimer :=
                      if s.jogger.paused = true ∧ s.on .curtain = false then s.jogger.clearTimer
                      else Timer.stopped }))))

/-- O52. PUSHER_HOME_ACTIVE in the phase RETURN, or on a retreat in CLEARANCE, leaves the Jogger EMPTY with the pusher
holding; on any other retreat the pusher holds and the state stays; with the pusher not going back nothing else
changes. TRANSFER_TIMER_EXPIRY in PUSH with the pusher going forward: the phase is TIMED_OUT, the pusher goes back
(paused if the curtain is broken; also with PUSHER_HOME active: log 14), the Jogger keeps its state and its lift,
and TRANSFER_TIMEOUT is latched with its FAULT notice, behind it (R175) the STEP notice ABORTED of a reference run
that it interrupts: a motion of the gauge is interrupted with position and reference kept (R95), the Runner's ask
void with it; a cut in CLAMPING, DWELL or STROKE_DOWN aborts as FAULTED and keeps the grant (R115), the Working
Stack with its partial-cut marker where the knife has passed the entry point (R69); a step in AWAIT_START goes back
to PREPARE, its cut waiting for the grant withdrawn (R67); Runner and cycle are otherwise as they were. With
TRANSFER_TIMEOUT latched already, only the phase and the pusher change. In any other phase, during a stop or while
paused, it has no effect. -/
def Obligations.PusherComesHomeOrTimesOut : Prop :=
  ∀ s : State,
    (∃ u : State, exec .pusherHomeActive s = .next u.finish ∧ SameBut [.jogger, .inputs] s u ∧
      u.on .pusherHome = true ∧ (∀ x, x ≠ .pusherHome → u.on x = s.on x) ∧
      (s.jogger.phase = .ret ∨ (s.jogger.pusher = .back ∧ s.jogger.state = .clearance) →
        u.jogger =
          { s.jogger with
            state := .empty
            phase := .none
            pusher := .hold
            paused := false
            clearTimer := Timer.stopped }) ∧
      (s.jogger.phase ≠ .ret → s.jogger.pusher = .back → s.jogger.state ≠ .clearance →
        u.jogger = { s.jogger with pusher := .hold, paused := false, clearTimer := Timer.stopped }) ∧
      (s.jogger.phase ≠ .ret → s.jogger.pusher ≠ .back → u.jogger = s.jogger)) ∧
    (s.jogger.phase = .push → s.jogger.pusher = .forward → s.jogger.paused = false → s.stop = false →
      let limit : Nat := s.jogger.transferTimer.limit
      let b : State :=
        s.setJogger
          { s.jogger with
            phase := .timedOut
            transferTimer := ⟨false, limit, limit⟩
            pusher := .back
            paused := s.on .curtain
            clearTimer := Timer.stopped }
      (s.faults.transferTimeout = false →
        ∃ u : State, exec .transferTimerExpiry s = .next u.transmit ∧
          GuillotineFault b u { s.faults with transferTimeout := true } ∧ u.jogger = b.jogger ∧
          u.link =
            (match if s.gauge.inMotion then s.gauge.refRun else none with
            | some r =>
              (s.link.offer (.fault { s.faults with transferTimeout := true })).offer
                (.step 0 0 0 .reference .aborted ⟨false, r.gmax, if s.gauge.valid then s.gauge.position else 0⟩)
            | none => s.link.offer (.fault { s.faults with transferTimeout := true })) ∧
          u.gauge.inMotion = false ∧ u.gauge.position = s.gauge.position ∧ u.gauge.valid = s.gauge.valid ∧
          u.runner.state = s.runner.state ∧ u.runner.stepIndex = s.runner.stepIndex ∧
          (s.cycle.purpose ≠ some .cut → u.cycle = s.cycle)) ∧
      (s.faults.transferTimeout = true → exec .transferTimerExpiry s = .next b.transmit)) ∧
    (s.jogger.phase ≠ .push ∨ s.jogger.pusher ≠ .forward ∨ s.jogger.paused = true ∨ s.stop = true →
      exec .transferTimerExpiry s = .next s.transmit)

/-- O53. HYD_READY_ACTIVE makes an UNAVAILABLE unit FREE, and the part settles. HYD_READY_INACTIVE makes a FREE unit
UNAVAILABLE with its requests kept. In HELD it latches HYD_PRESSURE, if that is not latched: the grant is revoked,
all requests are dropped, the unit is UNAVAILABLE, a moving cycle is STOPPED with what it had, a cycle in WAIT_GRANT
back in its return state, an ENGAGED monitor of either SPENT (R116, R106), the gauge's motion interrupted (R95), the
Infeed's motions interrupted (R125; log 16), jogging halted (R149), and every output of the part is off; the FAULT
notice is queued, and behind it (R175) the STEP notice ABORTED of an interrupted reference run; the Runner keeps
state, step index and phase, its ask void with an interrupted motion, and its Working Stack gets the partial-cut
marker where entry is passed before the count (R69, R79). In any other unit state only the input changes. -/
def Obligations.HydraulicsReadyAndLost : Prop :=
  ∀ s : State,
    (s.arbiter.unit = .unavailable →
      exec .hydReadyActive s =
        .next ((s.sense .hydReady true).setArbiter { s.arbiter with unit := .free }).finish) ∧
    (s.arbiter.unit ≠ .unavailable → exec .hydReadyActive s = .next (s.sense .hydReady true).finish) ∧
    (s.arbiter.unit = .free →
      exec .hydReadyInactive s =
        .next ((s.sense .hydReady false).setArbiter { s.arbiter with unit := .unavailable }).transmit) ∧
    (s.arbiter.unit = .unavailable → exec .hydReadyInactive s = .next (s.sense .hydReady false).transmit) ∧
    (s.arbiter.unit = .held → s.faults.hydPressure = false →
      ∃ u : State, exec .hydReadyInactive s = .next u.transmit ∧
        StopBegins (s.sense .hydReady false) u { s.faults with hydPressure := true } ∧
        u.on .hydReady = false ∧ (∀ x, x ≠ .hydReady → u.on x = s.on x) ∧ u.stop = true ∧
        u.arbiter = ⟨.unavailable, none, none, none, none⟩ ∧ (s.cycle.moving = true → u.cycle.state = .stopped) ∧
        u.gauge.inMotion = false ∧ u.cycleOutputs = CycleOutputs.off ∧ u.gaugeTravel = false ∧
        u.turnerValves = none ∧ u.liftValves = none ∧ u.pusherOutput = .hold ∧ u.airOutput = false ∧
        u.vibrationOutput = 0) ∧
    (s.arbiter.unit = .held → s.faults.hydPressure = true →
      exec .hydReadyInactive s = .next (s.sense .hydReady false).transmit)

/-- O54. From every state within the bounds, a step (a command, an own event, a tick) leads to a state within them: at
most 4 requests, at most 32 notices, and at most 4 replies counting the places that a write in flight and a deferred
RESTART reply keep; a RESTART reply is deferred only with a write in flight. The places kept are the model's reading
of the third condition of R186 (DEDUCED). -/
def Obligations.LinkBoundsAreKept : Prop :=
  ∀ s t : State, s.linkBounded → step s = .next t → t.linkBounded

/-- O55. From every state with at most 8 jobs, no job number twice and an admission level of 0 to 7, every step leads to
such a state. -/
def Obligations.TableBoundsAreKept : Prop :=
  ∀ s t : State, s.tableBounded → step s = .next t → t.tableBounded

/-- O56. From every state whose constants are in range with both pairs consistent, whose sixteen paper classes are in
range and whose write in flight, if any, is one that the checks accept, every step leads to such a state: also a
write completed, cut short by a power loss, or made at the limit of a pair. -/
def Obligations.StoreStaysSound : Prop :=
  ∀ s t : State, s.storeSound → step s = .next t → t.storeSound

/-- O57. From every state in which the unit is HELD exactly with a holder and otherwise FREE or UNAVAILABLE by
HYD_READY, no holder has a request pending, no grant and no request stands during a stop, the Cut Cycle unit holds
the grant exactly in its moving states and requests it exactly in WAIT_GRANT, with a purpose, every step leads to
such a state. -/
def Obligations.ArbiterStaysSound : Prop :=
  ∀ s t : State, s.arbiterSound → step s = .next t → t.arbiterSound

/-- O58. From every state in which the Arbiter is sound and a cycle in CLAMPING, DWELL or STROKE_DOWN (or a cut waiting
for the grant) has its monitor ENGAGED, the curtain clear, no stop and the purpose CUT, and an ENGAGED monitor has
both hand inputs active, every step leads to a state of the same kind: a hand released, a curtain broken or a stop
ends the downward motion in that same step. -/
def Obligations.KnifeStaysSafe : Prop :=
  ∀ s t : State, s.arbiterSound → s.knifeSafe → step s = .next t → t.knifeSafe

/-- O59. The state right after reset (the inputs and channels of its first sample are the model's choice, log 2) is
within the bounds of the Cell Link and the Job Table, its store is sound, its Arbiter agrees with its Cut Cycle
unit, and its knife is safe. -/
def Obligations.ResetMeetsTheInvariants : Prop :=
  State.reset.linkBounded ∧ State.reset.tableBounded ∧ State.reset.storeSound ∧ State.reset.arbiterSound ∧
    State.reset.knifeSafe

/-- O60. Whatever the step is, if the cycle is in STROKE_DOWN after it and was not before, then before it the cycle was
in DWELL or in CLAMPING, and after it the monitor is ENGAGED, the curtain is clear, CLAMP_PRESSURE is active and no
stop is in force. And whatever the command, if the stroke is counted after it and was not before, the cycle was in
STROKE_DOWN before. -/
def Obligations.KnifeGoesDownOnlyUnderR109 : Prop :=
  (∀ s t : State, step s = .next t → s.cycle.state ≠ .strokeDown → t.cycle.state = .strokeDown →
      (s.cycle.state = .dwell ∨ s.cycle.state = .clamping) ∧ t.cycle.monitor = .engaged ∧ t.on .curtain = false ∧
        t.on .clampPressure = true ∧ t.stop = false) ∧
    ∀ (c : Instr) (s t : State), exec c s = .next t → s.cycle.counted = false → t.cycle.counted = true →
      s.cycle.state = .strokeDown
end

