-- ==== Sys2Proof/Laws/State.lean ====
section
/-! SUPPORT. One lemma for each field and each named update of State, true by rfl: no later proof unfolds an update. -/
namespace Sys2Proof.Machine

@[simp] theorem setLink_link (s : State) (x : Link) : (s.setLink x).link = x := rfl
@[simp] theorem setLink_jobs (s : State) (x : Link) : (s.setLink x).jobs = s.jobs := rfl
@[simp] theorem setLink_admission (s : State) (x : Link) : (s.setLink x).admission = s.admission := rfl
@[simp] theorem setLink_planner (s : State) (x : Link) : (s.setLink x).planner = s.planner := rfl
@[simp] theorem setLink_bankA (s : State) (x : Link) : (s.setLink x).bankA = s.bankA := rfl
@[simp] theorem setLink_bankB (s : State) (x : Link) : (s.setLink x).bankB = s.bankB := rfl
@[simp] theorem setLink_runner (s : State) (x : Link) : (s.setLink x).runner = s.runner := rfl
@[simp] theorem setLink_gauge (s : State) (x : Link) : (s.setLink x).gauge = s.gauge := rfl
@[simp] theorem setLink_cycle (s : State) (x : Link) : (s.setLink x).cycle = s.cycle := rfl
@[simp] theorem setLink_infeed (s : State) (x : Link) : (s.setLink x).infeed = s.infeed := rfl
@[simp] theorem setLink_jogger (s : State) (x : Link) : (s.setLink x).jogger = s.jogger := rfl
@[simp] theorem setLink_arbiter (s : State) (x : Link) : (s.setLink x).arbiter = s.arbiter := rfl
@[simp] theorem setLink_inputs (s : State) (x : Link) : (s.setLink x).inputs = s.inputs := rfl
@[simp] theorem setLink_channels (s : State) (x : Link) : (s.setLink x).channels = s.channels := rfl
@[simp] theorem setLink_faults (s : State) (x : Link) : (s.setLink x).faults = s.faults := rfl
@[simp] theorem setLink_store (s : State) (x : Link) : (s.setLink x).store = s.store := rfl
@[simp] theorem setLink_free (s : State) (x : Link) : (s.setLink x).free = s.free := rfl
@[simp] theorem setLink_pending (s : State) (x : Link) : (s.setLink x).pending = s.pending := rfl
@[simp] theorem setLink_tape (s : State) (x : Link) : (s.setLink x).tape = s.tape := rfl
@[simp] theorem setJobs_link (s : State) (x : List JobEntry) : (s.setJobs x).link = s.link := rfl
@[simp] theorem setJobs_jobs (s : State) (x : List JobEntry) : (s.setJobs x).jobs = x := rfl
@[simp] theorem setJobs_admission (s : State) (x : List JobEntry) : (s.setJobs x).admission = s.admission := rfl
@[simp] theorem setJobs_planner (s : State) (x : List JobEntry) : (s.setJobs x).planner = s.planner := rfl
@[simp] theorem setJobs_bankA (s : State) (x : List JobEntry) : (s.setJobs x).bankA = s.bankA := rfl
@[simp] theorem setJobs_bankB (s : State) (x : List JobEntry) : (s.setJobs x).bankB = s.bankB := rfl
@[simp] theorem setJobs_runner (s : State) (x : List JobEntry) : (s.setJobs x).runner = s.runner := rfl
@[simp] theorem setJobs_gauge (s : State) (x : List JobEntry) : (s.setJobs x).gauge = s.gauge := rfl
@[simp] theorem setJobs_cycle (s : State) (x : List JobEntry) : (s.setJobs x).cycle = s.cycle := rfl
@[simp] theorem setJobs_infeed (s : State) (x : List JobEntry) : (s.setJobs x).infeed = s.infeed := rfl
@[simp] theorem setJobs_jogger (s : State) (x : List JobEntry) : (s.setJobs x).jogger = s.jogger := rfl
@[simp] theorem setJobs_arbiter (s : State) (x : List JobEntry) : (s.setJobs x).arbiter = s.arbiter := rfl
@[simp] theorem setJobs_inputs (s : State) (x : List JobEntry) : (s.setJobs x).inputs = s.inputs := rfl
@[simp] theorem setJobs_channels (s : State) (x : List JobEntry) : (s.setJobs x).channels = s.channels := rfl
@[simp] theorem setJobs_faults (s : State) (x : List JobEntry) : (s.setJobs x).faults = s.faults := rfl
@[simp] theorem setJobs_store (s : State) (x : List JobEntry) : (s.setJobs x).store = s.store := rfl
@[simp] theorem setJobs_free (s : State) (x : List JobEntry) : (s.setJobs x).free = s.free := rfl
@[simp] theorem setJobs_pending (s : State) (x : List JobEntry) : (s.setJobs x).pending = s.pending := rfl
@[simp] theorem setJobs_tape (s : State) (x : List JobEntry) : (s.setJobs x).tape = s.tape := rfl
@[simp] theorem setAdmission_link (s : State) (x : Nat) : (s.setAdmission x).link = s.link := rfl
@[simp] theorem setAdmission_jobs (s : State) (x : Nat) : (s.setAdmission x).jobs = s.jobs := rfl
@[simp] theorem setAdmission_admission (s : State) (x : Nat) : (s.setAdmission x).admission = x := rfl
@[simp] theorem setAdmission_planner (s : State) (x : Nat) : (s.setAdmission x).planner = s.planner := rfl
@[simp] theorem setAdmission_bankA (s : State) (x : Nat) : (s.setAdmission x).bankA = s.bankA := rfl
@[simp] theorem setAdmission_bankB (s : State) (x : Nat) : (s.setAdmission x).bankB = s.bankB := rfl
@[simp] theorem setAdmission_runner (s : State) (x : Nat) : (s.setAdmission x).runner = s.runner := rfl
@[simp] theorem setAdmission_gauge (s : State) (x : Nat) : (s.setAdmission x).gauge = s.gauge := rfl
@[simp] theorem setAdmission_cycle (s : State) (x : Nat) : (s.setAdmission x).cycle = s.cycle := rfl
@[simp] theorem setAdmission_infeed (s : State) (x : Nat) : (s.setAdmission x).infeed = s.infeed := rfl
@[simp] theorem setAdmission_jogger (s : State) (x : Nat) : (s.setAdmission x).jogger = s.jogger := rfl
@[simp] theorem setAdmission_arbiter (s : State) (x : Nat) : (s.setAdmission x).arbiter = s.arbiter := rfl
@[simp] theorem setAdmission_inputs (s : State) (x : Nat) : (s.setAdmission x).inputs = s.inputs := rfl
@[simp] theorem setAdmission_channels (s : State) (x : Nat) : (s.setAdmission x).channels = s.channels := rfl
@[simp] theorem setAdmission_faults (s : State) (x : Nat) : (s.setAdmission x).faults = s.faults := rfl
@[simp] theorem setAdmission_store (s : State) (x : Nat) : (s.setAdmission x).store = s.store := rfl
@[simp] theorem setAdmission_free (s : State) (x : Nat) : (s.setAdmission x).free = s.free := rfl
@[simp] theorem setAdmission_pending (s : State) (x : Nat) : (s.setAdmission x).pending = s.pending := rfl
@[simp] theorem setAdmission_tape (s : State) (x : Nat) : (s.setAdmission x).tape = s.tape := rfl
@[simp] theorem setPlanner_link (s : State) (x : Option PlanOp) : (s.setPlanner x).link = s.link := rfl
@[simp] theorem setPlanner_jobs (s : State) (x : Option PlanOp) : (s.setPlanner x).jobs = s.jobs := rfl
@[simp] theorem setPlanner_admission (s : State) (x : Option PlanOp) : (s.setPlanner x).admission = s.admission := rfl
@[simp] theorem setPlanner_planner (s : State) (x : Option PlanOp) : (s.setPlanner x).planner = x := rfl
@[simp] theorem setPlanner_bankA (s : State) (x : Option PlanOp) : (s.setPlanner x).bankA = s.bankA := rfl
@[simp] theorem setPlanner_bankB (s : State) (x : Option PlanOp) : (s.setPlanner x).bankB = s.bankB := rfl
@[simp] theorem setPlanner_runner (s : State) (x : Option PlanOp) : (s.setPlanner x).runner = s.runner := rfl
@[simp] theorem setPlanner_gauge (s : State) (x : Option PlanOp) : (s.setPlanner x).gauge = s.gauge := rfl
@[simp] theorem setPlanner_cycle (s : State) (x : Option PlanOp) : (s.setPlanner x).cycle = s.cycle := rfl
@[simp] theorem setPlanner_infeed (s : State) (x : Option PlanOp) : (s.setPlanner x).infeed = s.infeed := rfl
@[simp] theorem setPlanner_jogger (s : State) (x : Option PlanOp) : (s.setPlanner x).jogger = s.jogger := rfl
@[simp] theorem setPlanner_arbiter (s : State) (x : Option PlanOp) : (s.setPlanner x).arbiter = s.arbiter := rfl
@[simp] theorem setPlanner_inputs (s : State) (x : Option PlanOp) : (s.setPlanner x).inputs = s.inputs := rfl
@[simp] theorem setPlanner_channels (s : State) (x : Option PlanOp) : (s.setPlanner x).channels = s.channels := rfl
@[simp] theorem setPlanner_faults (s : State) (x : Option PlanOp) : (s.setPlanner x).faults = s.faults := rfl
@[simp] theorem setPlanner_store (s : State) (x : Option PlanOp) : (s.setPlanner x).store = s.store := rfl
@[simp] theorem setPlanner_free (s : State) (x : Option PlanOp) : (s.setPlanner x).free = s.free := rfl
@[simp] theorem setPlanner_pending (s : State) (x : Option PlanOp) : (s.setPlanner x).pending = s.pending := rfl
@[simp] theorem setPlanner_tape (s : State) (x : Option PlanOp) : (s.setPlanner x).tape = s.tape := rfl
@[simp] theorem setBankA_link (s : State) (x : Bank) : (s.setBankA x).link = s.link := rfl
@[simp] theorem setBankA_jobs (s : State) (x : Bank) : (s.setBankA x).jobs = s.jobs := rfl
@[simp] theorem setBankA_admission (s : State) (x : Bank) : (s.setBankA x).admission = s.admission := rfl
@[simp] theorem setBankA_planner (s : State) (x : Bank) : (s.setBankA x).planner = s.planner := rfl
@[simp] theorem setBankA_bankA (s : State) (x : Bank) : (s.setBankA x).bankA = x := rfl
@[simp] theorem setBankA_bankB (s : State) (x : Bank) : (s.setBankA x).bankB = s.bankB := rfl
@[simp] theorem setBankA_runner (s : State) (x : Bank) : (s.setBankA x).runner = s.runner := rfl
@[simp] theorem setBankA_gauge (s : State) (x : Bank) : (s.setBankA x).gauge = s.gauge := rfl
@[simp] theorem setBankA_cycle (s : State) (x : Bank) : (s.setBankA x).cycle = s.cycle := rfl
@[simp] theorem setBankA_infeed (s : State) (x : Bank) : (s.setBankA x).infeed = s.infeed := rfl
@[simp] theorem setBankA_jogger (s : State) (x : Bank) : (s.setBankA x).jogger = s.jogger := rfl
@[simp] theorem setBankA_arbiter (s : State) (x : Bank) : (s.setBankA x).arbiter = s.arbiter := rfl
@[simp] theorem setBankA_inputs (s : State) (x : Bank) : (s.setBankA x).inputs = s.inputs := rfl
@[simp] theorem setBankA_channels (s : State) (x : Bank) : (s.setBankA x).channels = s.channels := rfl
@[simp] theorem setBankA_faults (s : State) (x : Bank) : (s.setBankA x).faults = s.faults := rfl
@[simp] theorem setBankA_store (s : State) (x : Bank) : (s.setBankA x).store = s.store := rfl
@[simp] theorem setBankA_free (s : State) (x : Bank) : (s.setBankA x).free = s.free := rfl
@[simp] theorem setBankA_pending (s : State) (x : Bank) : (s.setBankA x).pending = s.pending := rfl
@[simp] theorem setBankA_tape (s : State) (x : Bank) : (s.setBankA x).tape = s.tape := rfl
@[simp] theorem setBankB_link (s : State) (x : Bank) : (s.setBankB x).link = s.link := rfl
@[simp] theorem setBankB_jobs (s : State) (x : Bank) : (s.setBankB x).jobs = s.jobs := rfl
@[simp] theorem setBankB_admission (s : State) (x : Bank) : (s.setBankB x).admission = s.admission := rfl
@[simp] theorem setBankB_planner (s : State) (x : Bank) : (s.setBankB x).planner = s.planner := rfl
@[simp] theorem setBankB_bankA (s : State) (x : Bank) : (s.setBankB x).bankA = s.bankA := rfl
@[simp] theorem setBankB_bankB (s : State) (x : Bank) : (s.setBankB x).bankB = x := rfl
@[simp] theorem setBankB_runner (s : State) (x : Bank) : (s.setBankB x).runner = s.runner := rfl
@[simp] theorem setBankB_gauge (s : State) (x : Bank) : (s.setBankB x).gauge = s.gauge := rfl
@[simp] theorem setBankB_cycle (s : State) (x : Bank) : (s.setBankB x).cycle = s.cycle := rfl
@[simp] theorem setBankB_infeed (s : State) (x : Bank) : (s.setBankB x).infeed = s.infeed := rfl
@[simp] theorem setBankB_jogger (s : State) (x : Bank) : (s.setBankB x).jogger = s.jogger := rfl
@[simp] theorem setBankB_arbiter (s : State) (x : Bank) : (s.setBankB x).arbiter = s.arbiter := rfl
@[simp] theorem setBankB_inputs (s : State) (x : Bank) : (s.setBankB x).inputs = s.inputs := rfl
@[simp] theorem setBankB_channels (s : State) (x : Bank) : (s.setBankB x).channels = s.channels := rfl
@[simp] theorem setBankB_faults (s : State) (x : Bank) : (s.setBankB x).faults = s.faults := rfl
@[simp] theorem setBankB_store (s : State) (x : Bank) : (s.setBankB x).store = s.store := rfl
@[simp] theorem setBankB_free (s : State) (x : Bank) : (s.setBankB x).free = s.free := rfl
@[simp] theorem setBankB_pending (s : State) (x : Bank) : (s.setBankB x).pending = s.pending := rfl
@[simp] theorem setBankB_tape (s : State) (x : Bank) : (s.setBankB x).tape = s.tape := rfl
@[simp] theorem setRunner_link (s : State) (x : Runner) : (s.setRunner x).link = s.link := rfl
@[simp] theorem setRunner_jobs (s : State) (x : Runner) : (s.setRunner x).jobs = s.jobs := rfl
@[simp] theorem setRunner_admission (s : State) (x : Runner) : (s.setRunner x).admission = s.admission := rfl
@[simp] theorem setRunner_planner (s : State) (x : Runner) : (s.setRunner x).planner = s.planner := rfl
@[simp] theorem setRunner_bankA (s : State) (x : Runner) : (s.setRunner x).bankA = s.bankA := rfl
@[simp] theorem setRunner_bankB (s : State) (x : Runner) : (s.setRunner x).bankB = s.bankB := rfl
@[simp] theorem setRunner_runner (s : State) (x : Runner) : (s.setRunner x).runner = x := rfl
@[simp] theorem setRunner_gauge (s : State) (x : Runner) : (s.setRunner x).gauge = s.gauge := rfl
@[simp] theorem setRunner_cycle (s : State) (x : Runner) : (s.setRunner x).cycle = s.cycle := rfl
@[simp] theorem setRunner_infeed (s : State) (x : Runner) : (s.setRunner x).infeed = s.infeed := rfl
@[simp] theorem setRunner_jogger (s : State) (x : Runner) : (s.setRunner x).jogger = s.jogger := rfl
@[simp] theorem setRunner_arbiter (s : State) (x : Runner) : (s.setRunner x).arbiter = s.arbiter := rfl
@[simp] theorem setRunner_inputs (s : State) (x : Runner) : (s.setRunner x).inputs = s.inputs := rfl
@[simp] theorem setRunner_channels (s : State) (x : Runner) : (s.setRunner x).channels = s.channels := rfl
@[simp] theorem setRunner_faults (s : State) (x : Runner) : (s.setRunner x).faults = s.faults := rfl
@[simp] theorem setRunner_store (s : State) (x : Runner) : (s.setRunner x).store = s.store := rfl
@[simp] theorem setRunner_free (s : State) (x : Runner) : (s.setRunner x).free = s.free := rfl
@[simp] theorem setRunner_pending (s : State) (x : Runner) : (s.setRunner x).pending = s.pending := rfl
@[simp] theorem setRunner_tape (s : State) (x : Runner) : (s.setRunner x).tape = s.tape := rfl
@[simp] theorem setGauge_link (s : State) (x : Gauge) : (s.setGauge x).link = s.link := rfl
@[simp] theorem setGauge_jobs (s : State) (x : Gauge) : (s.setGauge x).jobs = s.jobs := rfl
@[simp] theorem setGauge_admission (s : State) (x : Gauge) : (s.setGauge x).admission = s.admission := rfl
@[simp] theorem setGauge_planner (s : State) (x : Gauge) : (s.setGauge x).planner = s.planner := rfl
@[simp] theorem setGauge_bankA (s : State) (x : Gauge) : (s.setGauge x).bankA = s.bankA := rfl
@[simp] theorem setGauge_bankB (s : State) (x : Gauge) : (s.setGauge x).bankB = s.bankB := rfl
@[simp] theorem setGauge_runner (s : State) (x : Gauge) : (s.setGauge x).runner = s.runner := rfl
@[simp] theorem setGauge_gauge (s : State) (x : Gauge) : (s.setGauge x).gauge = x := rfl
@[simp] theorem setGauge_cycle (s : State) (x : Gauge) : (s.setGauge x).cycle = s.cycle := rfl
@[simp] theorem setGauge_infeed (s : State) (x : Gauge) : (s.setGauge x).infeed = s.infeed := rfl
@[simp] theorem setGauge_jogger (s : State) (x : Gauge) : (s.setGauge x).jogger = s.jogger := rfl
@[simp] theorem setGauge_arbiter (s : State) (x : Gauge) : (s.setGauge x).arbiter = s.arbiter := rfl
@[simp] theorem setGauge_inputs (s : State) (x : Gauge) : (s.setGauge x).inputs = s.inputs := rfl
@[simp] theorem setGauge_channels (s : State) (x : Gauge) : (s.setGauge x).channels = s.channels := rfl
@[simp] theorem setGauge_faults (s : State) (x : Gauge) : (s.setGauge x).faults = s.faults := rfl
@[simp] theorem setGauge_store (s : State) (x : Gauge) : (s.setGauge x).store = s.store := rfl
@[simp] theorem setGauge_free (s : State) (x : Gauge) : (s.setGauge x).free = s.free := rfl
@[simp] theorem setGauge_pending (s : State) (x : Gauge) : (s.setGauge x).pending = s.pending := rfl
@[simp] theorem setGauge_tape (s : State) (x : Gauge) : (s.setGauge x).tape = s.tape := rfl
@[simp] theorem setCycle_link (s : State) (x : Cycle) : (s.setCycle x).link = s.link := rfl
@[simp] theorem setCycle_jobs (s : State) (x : Cycle) : (s.setCycle x).jobs = s.jobs := rfl
@[simp] theorem setCycle_admission (s : State) (x : Cycle) : (s.setCycle x).admission = s.admission := rfl
@[simp] theorem setCycle_planner (s : State) (x : Cycle) : (s.setCycle x).planner = s.planner := rfl
@[simp] theorem setCycle_bankA (s : State) (x : Cycle) : (s.setCycle x).bankA = s.bankA := rfl
@[simp] theorem setCycle_bankB (s : State) (x : Cycle) : (s.setCycle x).bankB = s.bankB := rfl
@[simp] theorem setCycle_runner (s : State) (x : Cycle) : (s.setCycle x).runner = s.runner := rfl
@[simp] theorem setCycle_gauge (s : State) (x : Cycle) : (s.setCycle x).gauge = s.gauge := rfl
@[simp] theorem setCycle_cycle (s : State) (x : Cycle) : (s.setCycle x).cycle = x := rfl
@[simp] theorem setCycle_infeed (s : State) (x : Cycle) : (s.setCycle x).infeed = s.infeed := rfl
@[simp] theorem setCycle_jogger (s : State) (x : Cycle) : (s.setCycle x).jogger = s.jogger := rfl
@[simp] theorem setCycle_arbiter (s : State) (x : Cycle) : (s.setCycle x).arbiter = s.arbiter := rfl
@[simp] theorem setCycle_inputs (s : State) (x : Cycle) : (s.setCycle x).inputs = s.inputs := rfl
@[simp] theorem setCycle_channels (s : State) (x : Cycle) : (s.setCycle x).channels = s.channels := rfl
@[simp] theorem setCycle_faults (s : State) (x : Cycle) : (s.setCycle x).faults = s.faults := rfl
@[simp] theorem setCycle_store (s : State) (x : Cycle) : (s.setCycle x).store = s.store := rfl
@[simp] theorem setCycle_free (s : State) (x : Cycle) : (s.setCycle x).free = s.free := rfl
@[simp] theorem setCycle_pending (s : State) (x : Cycle) : (s.setCycle x).pending = s.pending := rfl
@[simp] theorem setCycle_tape (s : State) (x : Cycle) : (s.setCycle x).tape = s.tape := rfl
@[simp] theorem setInfeed_link (s : State) (x : Infeed) : (s.setInfeed x).link = s.link := rfl
@[simp] theorem setInfeed_jobs (s : State) (x : Infeed) : (s.setInfeed x).jobs = s.jobs := rfl
@[simp] theorem setInfeed_admission (s : State) (x : Infeed) : (s.setInfeed x).admission = s.admission := rfl
@[simp] theorem setInfeed_planner (s : State) (x : Infeed) : (s.setInfeed x).planner = s.planner := rfl
@[simp] theorem setInfeed_bankA (s : State) (x : Infeed) : (s.setInfeed x).bankA = s.bankA := rfl
@[simp] theorem setInfeed_bankB (s : State) (x : Infeed) : (s.setInfeed x).bankB = s.bankB := rfl
@[simp] theorem setInfeed_runner (s : State) (x : Infeed) : (s.setInfeed x).runner = s.runner := rfl
@[simp] theorem setInfeed_gauge (s : State) (x : Infeed) : (s.setInfeed x).gauge = s.gauge := rfl
@[simp] theorem setInfeed_cycle (s : State) (x : Infeed) : (s.setInfeed x).cycle = s.cycle := rfl
@[simp] theorem setInfeed_infeed (s : State) (x : Infeed) : (s.setInfeed x).infeed = x := rfl
@[simp] theorem setInfeed_jogger (s : State) (x : Infeed) : (s.setInfeed x).jogger = s.jogger := rfl
@[simp] theorem setInfeed_arbiter (s : State) (x : Infeed) : (s.setInfeed x).arbiter = s.arbiter := rfl
@[simp] theorem setInfeed_inputs (s : State) (x : Infeed) : (s.setInfeed x).inputs = s.inputs := rfl
@[simp] theorem setInfeed_channels (s : State) (x : Infeed) : (s.setInfeed x).channels = s.channels := rfl
@[simp] theorem setInfeed_faults (s : State) (x : Infeed) : (s.setInfeed x).faults = s.faults := rfl
@[simp] theorem setInfeed_store (s : State) (x : Infeed) : (s.setInfeed x).store = s.store := rfl
@[simp] theorem setInfeed_free (s : State) (x : Infeed) : (s.setInfeed x).free = s.free := rfl
@[simp] theorem setInfeed_pending (s : State) (x : Infeed) : (s.setInfeed x).pending = s.pending := rfl
@[simp] theorem setInfeed_tape (s : State) (x : Infeed) : (s.setInfeed x).tape = s.tape := rfl
@[simp] theorem setJogger_link (s : State) (x : Jogger) : (s.setJogger x).link = s.link := rfl
@[simp] theorem setJogger_jobs (s : State) (x : Jogger) : (s.setJogger x).jobs = s.jobs := rfl
@[simp] theorem setJogger_admission (s : State) (x : Jogger) : (s.setJogger x).admission = s.admission := rfl
@[simp] theorem setJogger_planner (s : State) (x : Jogger) : (s.setJogger x).planner = s.planner := rfl
@[simp] theorem setJogger_bankA (s : State) (x : Jogger) : (s.setJogger x).bankA = s.bankA := rfl
@[simp] theorem setJogger_bankB (s : State) (x : Jogger) : (s.setJogger x).bankB = s.bankB := rfl
@[simp] theorem setJogger_runner (s : State) (x : Jogger) : (s.setJogger x).runner = s.runner := rfl
@[simp] theorem setJogger_gauge (s : State) (x : Jogger) : (s.setJogger x).gauge = s.gauge := rfl
@[simp] theorem setJogger_cycle (s : State) (x : Jogger) : (s.setJogger x).cycle = s.cycle := rfl
@[simp] theorem setJogger_infeed (s : State) (x : Jogger) : (s.setJogger x).infeed = s.infeed := rfl
@[simp] theorem setJogger_jogger (s : State) (x : Jogger) : (s.setJogger x).jogger = x := rfl
@[simp] theorem setJogger_arbiter (s : State) (x : Jogger) : (s.setJogger x).arbiter = s.arbiter := rfl
@[simp] theorem setJogger_inputs (s : State) (x : Jogger) : (s.setJogger x).inputs = s.inputs := rfl
@[simp] theorem setJogger_channels (s : State) (x : Jogger) : (s.setJogger x).channels = s.channels := rfl
@[simp] theorem setJogger_faults (s : State) (x : Jogger) : (s.setJogger x).faults = s.faults := rfl
@[simp] theorem setJogger_store (s : State) (x : Jogger) : (s.setJogger x).store = s.store := rfl
@[simp] theorem setJogger_free (s : State) (x : Jogger) : (s.setJogger x).free = s.free := rfl
@[simp] theorem setJogger_pending (s : State) (x : Jogger) : (s.setJogger x).pending = s.pending := rfl
@[simp] theorem setJogger_tape (s : State) (x : Jogger) : (s.setJogger x).tape = s.tape := rfl
@[simp] theorem setArbiter_link (s : State) (x : Arbiter) : (s.setArbiter x).link = s.link := rfl
@[simp] theorem setArbiter_jobs (s : State) (x : Arbiter) : (s.setArbiter x).jobs = s.jobs := rfl
@[simp] theorem setArbiter_admission (s : State) (x : Arbiter) : (s.setArbiter x).admission = s.admission := rfl
@[simp] theorem setArbiter_planner (s : State) (x : Arbiter) : (s.setArbiter x).planner = s.planner := rfl
@[simp] theorem setArbiter_bankA (s : State) (x : Arbiter) : (s.setArbiter x).bankA = s.bankA := rfl
@[simp] theorem setArbiter_bankB (s : State) (x : Arbiter) : (s.setArbiter x).bankB = s.bankB := rfl
@[simp] theorem setArbiter_runner (s : State) (x : Arbiter) : (s.setArbiter x).runner = s.runner := rfl
@[simp] theorem setArbiter_gauge (s : State) (x : Arbiter) : (s.setArbiter x).gauge = s.gauge := rfl
@[simp] theorem setArbiter_cycle (s : State) (x : Arbiter) : (s.setArbiter x).cycle = s.cycle := rfl
@[simp] theorem setArbiter_infeed (s : State) (x : Arbiter) : (s.setArbiter x).infeed = s.infeed := rfl
@[simp] theorem setArbiter_jogger (s : State) (x : Arbiter) : (s.setArbiter x).jogger = s.jogger := rfl
@[simp] theorem setArbiter_arbiter (s : State) (x : Arbiter) : (s.setArbiter x).arbiter = x := rfl
@[simp] theorem setArbiter_inputs (s : State) (x : Arbiter) : (s.setArbiter x).inputs = s.inputs := rfl
@[simp] theorem setArbiter_channels (s : State) (x : Arbiter) : (s.setArbiter x).channels = s.channels := rfl
@[simp] theorem setArbiter_faults (s : State) (x : Arbiter) : (s.setArbiter x).faults = s.faults := rfl
@[simp] theorem setArbiter_store (s : State) (x : Arbiter) : (s.setArbiter x).store = s.store := rfl
@[simp] theorem setArbiter_free (s : State) (x : Arbiter) : (s.setArbiter x).free = s.free := rfl
@[simp] theorem setArbiter_pending (s : State) (x : Arbiter) : (s.setArbiter x).pending = s.pending := rfl
@[simp] theorem setArbiter_tape (s : State) (x : Arbiter) : (s.setArbiter x).tape = s.tape := rfl
@[simp] theorem setInputs_link (s : State) (x : Inputs) : (s.setInputs x).link = s.link := rfl
@[simp] theorem setInputs_jobs (s : State) (x : Inputs) : (s.setInputs x).jobs = s.jobs := rfl
@[simp] theorem setInputs_admission (s : State) (x : Inputs) : (s.setInputs x).admission = s.admission := rfl
@[simp] theorem setInputs_planner (s : State) (x : Inputs) : (s.setInputs x).planner = s.planner := rfl
@[simp] theorem setInputs_bankA (s : State) (x : Inputs) : (s.setInputs x).bankA = s.bankA := rfl
@[simp] theorem setInputs_bankB (s : State) (x : Inputs) : (s.setInputs x).bankB = s.bankB := rfl
@[simp] theorem setInputs_runner (s : State) (x : Inputs) : (s.setInputs x).runner = s.runner := rfl
@[simp] theorem setInputs_gauge (s : State) (x : Inputs) : (s.setInputs x).gauge = s.gauge := rfl
@[simp] theorem setInputs_cycle (s : State) (x : Inputs) : (s.setInputs x).cycle = s.cycle := rfl
@[simp] theorem setInputs_infeed (s : State) (x : Inputs) : (s.setInputs x).infeed = s.infeed := rfl
@[simp] theorem setInputs_jogger (s : State) (x : Inputs) : (s.setInputs x).jogger = s.jogger := rfl
@[simp] theorem setInputs_arbiter (s : State) (x : Inputs) : (s.setInputs x).arbiter = s.arbiter := rfl
@[simp] theorem setInputs_inputs (s : State) (x : Inputs) : (s.setInputs x).inputs = x := rfl
@[simp] theorem setInputs_channels (s : State) (x : Inputs) : (s.setInputs x).channels = s.channels := rfl
@[simp] theorem setInputs_faults (s : State) (x : Inputs) : (s.setInputs x).faults = s.faults := rfl
@[simp] theorem setInputs_store (s : State) (x : Inputs) : (s.setInputs x).store = s.store := rfl
@[simp] theorem setInputs_free (s : State) (x : Inputs) : (s.setInputs x).free = s.free := rfl
@[simp] theorem setInputs_pending (s : State) (x : Inputs) : (s.setInputs x).pending = s.pending := rfl
@[simp] theorem setInputs_tape (s : State) (x : Inputs) : (s.setInputs x).tape = s.tape := rfl
@[simp] theorem setChannels_link (s : State) (x : Channels) : (s.setChannels x).link = s.link := rfl
@[simp] theorem setChannels_jobs (s : State) (x : Channels) : (s.setChannels x).jobs = s.jobs := rfl
@[simp] theorem setChannels_admission (s : State) (x : Channels) : (s.setChannels x).admission = s.admission := rfl
@[simp] theorem setChannels_planner (s : State) (x : Channels) : (s.setChannels x).planner = s.planner := rfl
@[simp] theorem setChannels_bankA (s : State) (x : Channels) : (s.setChannels x).bankA = s.bankA := rfl
@[simp] theorem setChannels_bankB (s : State) (x : Channels) : (s.setChannels x).bankB = s.bankB := rfl
@[simp] theorem setChannels_runner (s : State) (x : Channels) : (s.setChannels x).runner = s.runner := rfl
@[simp] theorem setChannels_gauge (s : State) (x : Channels) : (s.setChannels x).gauge = s.gauge := rfl
@[simp] theorem setChannels_cycle (s : State) (x : Channels) : (s.setChannels x).cycle = s.cycle := rfl
@[simp] theorem setChannels_infeed (s : State) (x : Channels) : (s.setChannels x).infeed = s.infeed := rfl
@[simp] theorem setChannels_jogger (s : State) (x : Channels) : (s.setChannels x).jogger = s.jogger := rfl
@[simp] theorem setChannels_arbiter (s : State) (x : Channels) : (s.setChannels x).arbiter = s.arbiter := rfl
@[simp] theorem setChannels_inputs (s : State) (x : Channels) : (s.setChannels x).inputs = s.inputs := rfl
@[simp] theorem setChannels_channels (s : State) (x : Channels) : (s.setChannels x).channels = x := rfl
@[simp] theorem setChannels_faults (s : State) (x : Channels) : (s.setChannels x).faults = s.faults := rfl
@[simp] theorem setChannels_store (s : State) (x : Channels) : (s.setChannels x).store = s.store := rfl
@[simp] theorem setChannels_free (s : State) (x : Channels) : (s.setChannels x).free = s.free := rfl
@[simp] theorem setChannels_pending (s : State) (x : Channels) : (s.setChannels x).pending = s.pending := rfl
@[simp] theorem setChannels_tape (s : State) (x : Channels) : (s.setChannels x).tape = s.tape := rfl
@[simp] theorem setFaults_link (s : State) (x : FaultSet) : (s.setFaults x).link = s.link := rfl
@[simp] theorem setFaults_jobs (s : State) (x : FaultSet) : (s.setFaults x).jobs = s.jobs := rfl
@[simp] theorem setFaults_admission (s : State) (x : FaultSet) : (s.setFaults x).admission = s.admission := rfl
@[simp] theorem setFaults_planner (s : State) (x : FaultSet) : (s.setFaults x).planner = s.planner := rfl
@[simp] theorem setFaults_bankA (s : State) (x : FaultSet) : (s.setFaults x).bankA = s.bankA := rfl
@[simp] theorem setFaults_bankB (s : State) (x : FaultSet) : (s.setFaults x).bankB = s.bankB := rfl
@[simp] theorem setFaults_runner (s : State) (x : FaultSet) : (s.setFaults x).runner = s.runner := rfl
@[simp] theorem setFaults_gauge (s : State) (x : FaultSet) : (s.setFaults x).gauge = s.gauge := rfl
@[simp] theorem setFaults_cycle (s : State) (x : FaultSet) : (s.setFaults x).cycle = s.cycle := rfl
@[simp] theorem setFaults_infeed (s : State) (x : FaultSet) : (s.setFaults x).infeed = s.infeed := rfl
@[simp] theorem setFaults_jogger (s : State) (x : FaultSet) : (s.setFaults x).jogger = s.jogger := rfl
@[simp] theorem setFaults_arbiter (s : State) (x : FaultSet) : (s.setFaults x).arbiter = s.arbiter := rfl
@[simp] theorem setFaults_inputs (s : State) (x : FaultSet) : (s.setFaults x).inputs = s.inputs := rfl
@[simp] theorem setFaults_channels (s : State) (x : FaultSet) : (s.setFaults x).channels = s.channels := rfl
@[simp] theorem setFaults_faults (s : State) (x : FaultSet) : (s.setFaults x).faults = x := rfl
@[simp] theorem setFaults_store (s : State) (x : FaultSet) : (s.setFaults x).store = s.store := rfl
@[simp] theorem setFaults_free (s : State) (x : FaultSet) : (s.setFaults x).free = s.free := rfl
@[simp] theorem setFaults_pending (s : State) (x : FaultSet) : (s.setFaults x).pending = s.pending := rfl
@[simp] theorem setFaults_tape (s : State) (x : FaultSet) : (s.setFaults x).tape = s.tape := rfl
@[simp] theorem setStore_link (s : State) (x : Store) : (s.setStore x).link = s.link := rfl
@[simp] theorem setStore_jobs (s : State) (x : Store) : (s.setStore x).jobs = s.jobs := rfl
@[simp] theorem setStore_admission (s : State) (x : Store) : (s.setStore x).admission = s.admission := rfl
@[simp] theorem setStore_planner (s : State) (x : Store) : (s.setStore x).planner = s.planner := rfl
@[simp] theorem setStore_bankA (s : State) (x : Store) : (s.setStore x).bankA = s.bankA := rfl
@[simp] theorem setStore_bankB (s : State) (x : Store) : (s.setStore x).bankB = s.bankB := rfl
@[simp] theorem setStore_runner (s : State) (x : Store) : (s.setStore x).runner = s.runner := rfl
@[simp] theorem setStore_gauge (s : State) (x : Store) : (s.setStore x).gauge = s.gauge := rfl
@[simp] theorem setStore_cycle (s : State) (x : Store) : (s.setStore x).cycle = s.cycle := rfl
@[simp] theorem setStore_infeed (s : State) (x : Store) : (s.setStore x).infeed = s.infeed := rfl
@[simp] theorem setStore_jogger (s : State) (x : Store) : (s.setStore x).jogger = s.jogger := rfl
@[simp] theorem setStore_arbiter (s : State) (x : Store) : (s.setStore x).arbiter = s.arbiter := rfl
@[simp] theorem setStore_inputs (s : State) (x : Store) : (s.setStore x).inputs = s.inputs := rfl
@[simp] theorem setStore_channels (s : State) (x : Store) : (s.setStore x).channels = s.channels := rfl
@[simp] theorem setStore_faults (s : State) (x : Store) : (s.setStore x).faults = s.faults := rfl
@[simp] theorem setStore_store (s : State) (x : Store) : (s.setStore x).store = x := rfl
@[simp] theorem setStore_free (s : State) (x : Store) : (s.setStore x).free = s.free := rfl
@[simp] theorem setStore_pending (s : State) (x : Store) : (s.setStore x).pending = s.pending := rfl
@[simp] theorem setStore_tape (s : State) (x : Store) : (s.setStore x).tape = s.tape := rfl
@[simp] theorem setFree_link (s : State) (x : Nat) : (s.setFree x).link = s.link := rfl
@[simp] theorem setFree_jobs (s : State) (x : Nat) : (s.setFree x).jobs = s.jobs := rfl
@[simp] theorem setFree_admission (s : State) (x : Nat) : (s.setFree x).admission = s.admission := rfl
@[simp] theorem setFree_planner (s : State) (x : Nat) : (s.setFree x).planner = s.planner := rfl
@[simp] theorem setFree_bankA (s : State) (x : Nat) : (s.setFree x).bankA = s.bankA := rfl
@[simp] theorem setFree_bankB (s : State) (x : Nat) : (s.setFree x).bankB = s.bankB := rfl
@[simp] theorem setFree_runner (s : State) (x : Nat) : (s.setFree x).runner = s.runner := rfl
@[simp] theorem setFree_gauge (s : State) (x : Nat) : (s.setFree x).gauge = s.gauge := rfl
@[simp] theorem setFree_cycle (s : State) (x : Nat) : (s.setFree x).cycle = s.cycle := rfl
@[simp] theorem setFree_infeed (s : State) (x : Nat) : (s.setFree x).infeed = s.infeed := rfl
@[simp] theorem setFree_jogger (s : State) (x : Nat) : (s.setFree x).jogger = s.jogger := rfl
@[simp] theorem setFree_arbiter (s : State) (x : Nat) : (s.setFree x).arbiter = s.arbiter := rfl
@[simp] theorem setFree_inputs (s : State) (x : Nat) : (s.setFree x).inputs = s.inputs := rfl
@[simp] theorem setFree_channels (s : State) (x : Nat) : (s.setFree x).channels = s.channels := rfl
@[simp] theorem setFree_faults (s : State) (x : Nat) : (s.setFree x).faults = s.faults := rfl
@[simp] theorem setFree_store (s : State) (x : Nat) : (s.setFree x).store = s.store := rfl
@[simp] theorem setFree_free (s : State) (x : Nat) : (s.setFree x).free = x := rfl
@[simp] theorem setFree_pending (s : State) (x : Nat) : (s.setFree x).pending = s.pending := rfl
@[simp] theorem setFree_tape (s : State) (x : Nat) : (s.setFree x).tape = s.tape := rfl
@[simp] theorem setPending_link (s : State) (x : List Instr) : (s.setPending x).link = s.link := rfl
@[simp] theorem setPending_jobs (s : State) (x : List Instr) : (s.setPending x).jobs = s.jobs := rfl
@[simp] theorem setPending_admission (s : State) (x : List Instr) : (s.setPending x).admission = s.admission := rfl
@[simp] theorem setPending_planner (s : State) (x : List Instr) : (s.setPending x).planner = s.planner := rfl
@[simp] theorem setPending_bankA (s : State) (x : List Instr) : (s.setPending x).bankA = s.bankA := rfl
@[simp] theorem setPending_bankB (s : State) (x : List Instr) : (s.setPending x).bankB = s.bankB := rfl
@[simp] theorem setPending_runner (s : State) (x : List Instr) : (s.setPending x).runner = s.runner := rfl
@[simp] theorem setPending_gauge (s : State) (x : List Instr) : (s.setPending x).gauge = s.gauge := rfl
@[simp] theorem setPending_cycle (s : State) (x : List Instr) : (s.setPending x).cycle = s.cycle := rfl
@[simp] theorem setPending_infeed (s : State) (x : List Instr) : (s.setPending x).infeed = s.infeed := rfl
@[simp] theorem setPending_jogger (s : State) (x : List Instr) : (s.setPending x).jogger = s.jogger := rfl
@[simp] theorem setPending_arbiter (s : State) (x : List Instr) : (s.setPending x).arbiter = s.arbiter := rfl
@[simp] theorem setPending_inputs (s : State) (x : List Instr) : (s.setPending x).inputs = s.inputs := rfl
@[simp] theorem setPending_channels (s : State) (x : List Instr) : (s.setPending x).channels = s.channels := rfl
@[simp] theorem setPending_faults (s : State) (x : List Instr) : (s.setPending x).faults = s.faults := rfl
@[simp] theorem setPending_store (s : State) (x : List Instr) : (s.setPending x).store = s.store := rfl
@[simp] theorem setPending_free (s : State) (x : List Instr) : (s.setPending x).free = s.free := rfl
@[simp] theorem setPending_pending (s : State) (x : List Instr) : (s.setPending x).pending = x := rfl
@[simp] theorem setPending_tape (s : State) (x : List Instr) : (s.setPending x).tape = s.tape := rfl
@[simp] theorem setTape_link (s : State) (x : List Sample) : (s.setTape x).link = s.link := rfl
@[simp] theorem setTape_jobs (s : State) (x : List Sample) : (s.setTape x).jobs = s.jobs := rfl
@[simp] theorem setTape_admission (s : State) (x : List Sample) : (s.setTape x).admission = s.admission := rfl
@[simp] theorem setTape_planner (s : State) (x : List Sample) : (s.setTape x).planner = s.planner := rfl
@[simp] theorem setTape_bankA (s : State) (x : List Sample) : (s.setTape x).bankA = s.bankA := rfl
@[simp] theorem setTape_bankB (s : State) (x : List Sample) : (s.setTape x).bankB = s.bankB := rfl
@[simp] theorem setTape_runner (s : State) (x : List Sample) : (s.setTape x).runner = s.runner := rfl
@[simp] theorem setTape_gauge (s : State) (x : List Sample) : (s.setTape x).gauge = s.gauge := rfl
@[simp] theorem setTape_cycle (s : State) (x : List Sample) : (s.setTape x).cycle = s.cycle := rfl
@[simp] theorem setTape_infeed (s : State) (x : List Sample) : (s.setTape x).infeed = s.infeed := rfl
@[simp] theorem setTape_jogger (s : State) (x : List Sample) : (s.setTape x).jogger = s.jogger := rfl
@[simp] theorem setTape_arbiter (s : State) (x : List Sample) : (s.setTape x).arbiter = s.arbiter := rfl
@[simp] theorem setTape_inputs (s : State) (x : List Sample) : (s.setTape x).inputs = s.inputs := rfl
@[simp] theorem setTape_channels (s : State) (x : List Sample) : (s.setTape x).channels = s.channels := rfl
@[simp] theorem setTape_faults (s : State) (x : List Sample) : (s.setTape x).faults = s.faults := rfl
@[simp] theorem setTape_store (s : State) (x : List Sample) : (s.setTape x).store = s.store := rfl
@[simp] theorem setTape_free (s : State) (x : List Sample) : (s.setTape x).free = s.free := rfl
@[simp] theorem setTape_pending (s : State) (x : List Sample) : (s.setTape x).pending = s.pending := rfl
@[simp] theorem setTape_tape (s : State) (x : List Sample) : (s.setTape x).tape = x := rfl

end Sys2Proof.Machine
end

