-- ==== Sys2Proof/Laws/Flags.lean ====
section
/-! SUPPORT. What each shared operation of the inputs leaves alone: one lemma for each operation. -/
namespace Sys2Proof.Machine

@[simp] theorem State.sense_frame (s : State) (x : Switch) (level : Bool) :
    (State.sense s x level).link = s.link ∧
    (State.sense s x level).jobs = s.jobs ∧
    (State.sense s x level).admission = s.admission ∧
    (State.sense s x level).planner = s.planner ∧
    (State.sense s x level).bankA = s.bankA ∧
    (State.sense s x level).bankB = s.bankB ∧
    (State.sense s x level).runner = s.runner ∧
    (State.sense s x level).gauge = s.gauge ∧
    (State.sense s x level).cycle = s.cycle ∧
    (State.sense s x level).infeed = s.infeed ∧
    (State.sense s x level).jogger = s.jogger ∧
    (State.sense s x level).arbiter = s.arbiter ∧
    (State.sense s x level).channels = s.channels ∧
    (State.sense s x level).faults = s.faults ∧
    (State.sense s x level).store = s.store ∧
    (State.sense s x level).free = s.free ∧
    (State.sense s x level).pending = s.pending ∧
    (State.sense s x level).tape = s.tape := by
  simp [State.sense]

end Sys2Proof.Machine
end

