-- ==== Sys2Proof/Laws/LinkOps.lean ====
section
/-! SUPPORT. What each shared operation of the Cell Link leaves alone: one lemma for each operation. -/
namespace Sys2Proof.Machine

@[simp] theorem State.notify_frame (s : State) (n : Notice) :
    (State.notify s n).jobs = s.jobs ∧
    (State.notify s n).admission = s.admission ∧
    (State.notify s n).planner = s.planner ∧
    (State.notify s n).bankA = s.bankA ∧
    (State.notify s n).bankB = s.bankB ∧
    (State.notify s n).runner = s.runner ∧
    (State.notify s n).gauge = s.gauge ∧
    (State.notify s n).cycle = s.cycle ∧
    (State.notify s n).infeed = s.infeed ∧
    (State.notify s n).jogger = s.jogger ∧
    (State.notify s n).arbiter = s.arbiter ∧
    (State.notify s n).inputs = s.inputs ∧
    (State.notify s n).channels = s.channels ∧
    (State.notify s n).faults = s.faults ∧
    (State.notify s n).store = s.store ∧
    (State.notify s n).free = s.free ∧
    (State.notify s n).pending = s.pending ∧
    (State.notify s n).tape = s.tape := by
  simp [State.notify]

@[simp] theorem State.await_frame (s : State) (w : WaitFor) :
    (State.await s w).jobs = s.jobs ∧
    (State.await s w).admission = s.admission ∧
    (State.await s w).planner = s.planner ∧
    (State.await s w).bankA = s.bankA ∧
    (State.await s w).bankB = s.bankB ∧
    (State.await s w).runner = s.runner ∧
    (State.await s w).gauge = s.gauge ∧
    (State.await s w).cycle = s.cycle ∧
    (State.await s w).infeed = s.infeed ∧
    (State.await s w).jogger = s.jogger ∧
    (State.await s w).arbiter = s.arbiter ∧
    (State.await s w).inputs = s.inputs ∧
    (State.await s w).channels = s.channels ∧
    (State.await s w).faults = s.faults ∧
    (State.await s w).store = s.store ∧
    (State.await s w).free = s.free ∧
    (State.await s w).pending = s.pending ∧
    (State.await s w).tape = s.tape := by
  simp [State.await]

@[simp] theorem State.reply_frame (s : State) (r : Reply) :
    (State.reply s r).jobs = s.jobs ∧
    (State.reply s r).admission = s.admission ∧
    (State.reply s r).planner = s.planner ∧
    (State.reply s r).bankA = s.bankA ∧
    (State.reply s r).bankB = s.bankB ∧
    (State.reply s r).runner = s.runner ∧
    (State.reply s r).gauge = s.gauge ∧
    (State.reply s r).cycle = s.cycle ∧
    (State.reply s r).infeed = s.infeed ∧
    (State.reply s r).jogger = s.jogger ∧
    (State.reply s r).arbiter = s.arbiter ∧
    (State.reply s r).inputs = s.inputs ∧
    (State.reply s r).channels = s.channels ∧
    (State.reply s r).faults = s.faults ∧
    (State.reply s r).store = s.store ∧
    (State.reply s r).free = s.free ∧
    (State.reply s r).pending = s.pending ∧
    (State.reply s r).tape = s.tape := by
  simp [State.reply]

@[simp] theorem State.answer_frame (s : State) (f : Frame) (status : Status) (field : Nat) (data : List Byte) :
    (State.answer s f status field data).jobs = s.jobs ∧
    (State.answer s f status field data).admission = s.admission ∧
    (State.answer s f status field data).planner = s.planner ∧
    (State.answer s f status field data).bankA = s.bankA ∧
    (State.answer s f status field data).bankB = s.bankB ∧
    (State.answer s f status field data).runner = s.runner ∧
    (State.answer s f status field data).gauge = s.gauge ∧
    (State.answer s f status field data).cycle = s.cycle ∧
    (State.answer s f status field data).infeed = s.infeed ∧
    (State.answer s f status field data).jogger = s.jogger ∧
    (State.answer s f status field data).arbiter = s.arbiter ∧
    (State.answer s f status field data).inputs = s.inputs ∧
    (State.answer s f status field data).channels = s.channels ∧
    (State.answer s f status field data).faults = s.faults ∧
    (State.answer s f status field data).store = s.store ∧
    (State.answer s f status field data).free = s.free ∧
    (State.answer s f status field data).pending = s.pending ∧
    (State.answer s f status field data).tape = s.tape := by
  simp [State.answer]

@[simp] theorem State.dequeue_frame (s : State) :
    (State.dequeue s).jobs = s.jobs ∧
    (State.dequeue s).admission = s.admission ∧
    (State.dequeue s).planner = s.planner ∧
    (State.dequeue s).bankA = s.bankA ∧
    (State.dequeue s).bankB = s.bankB ∧
    (State.dequeue s).runner = s.runner ∧
    (State.dequeue s).gauge = s.gauge ∧
    (State.dequeue s).cycle = s.cycle ∧
    (State.dequeue s).infeed = s.infeed ∧
    (State.dequeue s).jogger = s.jogger ∧
    (State.dequeue s).arbiter = s.arbiter ∧
    (State.dequeue s).inputs = s.inputs ∧
    (State.dequeue s).channels = s.channels ∧
    (State.dequeue s).faults = s.faults ∧
    (State.dequeue s).store = s.store ∧
    (State.dequeue s).free = s.free ∧
    (State.dequeue s).pending = s.pending ∧
    (State.dequeue s).tape = s.tape := by
  simp [State.dequeue]

@[simp] theorem State.transmit_frame (s : State) :
    (State.transmit s).jobs = s.jobs ∧
    (State.transmit s).admission = s.admission ∧
    (State.transmit s).planner = s.planner ∧
    (State.transmit s).bankA = s.bankA ∧
    (State.transmit s).bankB = s.bankB ∧
    (State.transmit s).runner = s.runner ∧
    (State.transmit s).gauge = s.gauge ∧
    (State.transmit s).cycle = s.cycle ∧
    (State.transmit s).infeed = s.infeed ∧
    (State.transmit s).jogger = s.jogger ∧
    (State.transmit s).arbiter = s.arbiter ∧
    (State.transmit s).inputs = s.inputs ∧
    (State.transmit s).channels = s.channels ∧
    (State.transmit s).faults = s.faults ∧
    (State.transmit s).store = s.store ∧
    (State.transmit s).free = s.free ∧
    (State.transmit s).pending = s.pending ∧
    (State.transmit s).tape = s.tape := by
  simp [State.transmit]

end Sys2Proof.Machine
end

