-- ==== Sys2Proof/Laws/ArbiterOps.lean ====
section
/-! SUPPORT. What each shared operation of the Hydraulic Arbiter leaves alone: one lemma for each operation. -/
namespace Sys2Proof.Machine

@[simp] theorem State.raise_frame (s : State) (q : Requester) :
    (State.raise s q).link = s.link ∧
    (State.raise s q).jobs = s.jobs ∧
    (State.raise s q).admission = s.admission ∧
    (State.raise s q).planner = s.planner ∧
    (State.raise s q).bankA = s.bankA ∧
    (State.raise s q).bankB = s.bankB ∧
    (State.raise s q).runner = s.runner ∧
    (State.raise s q).gauge = s.gauge ∧
    (State.raise s q).cycle = s.cycle ∧
    (State.raise s q).infeed = s.infeed ∧
    (State.raise s q).jogger = s.jogger ∧
    (State.raise s q).inputs = s.inputs ∧
    (State.raise s q).channels = s.channels ∧
    (State.raise s q).faults = s.faults ∧
    (State.raise s q).store = s.store ∧
    (State.raise s q).free = s.free ∧
    (State.raise s q).pending = s.pending ∧
    (State.raise s q).tape = s.tape := by
  unfold State.raise
  split <;> simp

@[simp] theorem State.withdrawRequest_frame (s : State) (q : Requester) :
    (State.withdrawRequest s q).link = s.link ∧
    (State.withdrawRequest s q).jobs = s.jobs ∧
    (State.withdrawRequest s q).admission = s.admission ∧
    (State.withdrawRequest s q).planner = s.planner ∧
    (State.withdrawRequest s q).bankA = s.bankA ∧
    (State.withdrawRequest s q).bankB = s.bankB ∧
    (State.withdrawRequest s q).runner = s.runner ∧
    (State.withdrawRequest s q).gauge = s.gauge ∧
    (State.withdrawRequest s q).cycle = s.cycle ∧
    (State.withdrawRequest s q).infeed = s.infeed ∧
    (State.withdrawRequest s q).jogger = s.jogger ∧
    (State.withdrawRequest s q).inputs = s.inputs ∧
    (State.withdrawRequest s q).channels = s.channels ∧
    (State.withdrawRequest s q).faults = s.faults ∧
    (State.withdrawRequest s q).store = s.store ∧
    (State.withdrawRequest s q).free = s.free ∧
    (State.withdrawRequest s q).pending = s.pending ∧
    (State.withdrawRequest s q).tape = s.tape := by
  simp [State.withdrawRequest]

@[simp] theorem State.release_frame (s : State) :
    (State.release s).link = s.link ∧
    (State.release s).jobs = s.jobs ∧
    (State.release s).admission = s.admission ∧
    (State.release s).planner = s.planner ∧
    (State.release s).bankA = s.bankA ∧
    (State.release s).bankB = s.bankB ∧
    (State.release s).runner = s.runner ∧
    (State.release s).gauge = s.gauge ∧
    (State.release s).cycle = s.cycle ∧
    (State.release s).infeed = s.infeed ∧
    (State.release s).jogger = s.jogger ∧
    (State.release s).inputs = s.inputs ∧
    (State.release s).channels = s.channels ∧
    (State.release s).faults = s.faults ∧
    (State.release s).store = s.store ∧
    (State.release s).free = s.free ∧
    (State.release s).pending = s.pending ∧
    (State.release s).tape = s.tape := by
  simp [State.release]

@[simp] theorem State.leaveUnit_frame (s : State) (q : Requester) :
    (State.leaveUnit s q).link = s.link ∧
    (State.leaveUnit s q).jobs = s.jobs ∧
    (State.leaveUnit s q).admission = s.admission ∧
    (State.leaveUnit s q).planner = s.planner ∧
    (State.leaveUnit s q).bankA = s.bankA ∧
    (State.leaveUnit s q).bankB = s.bankB ∧
    (State.leaveUnit s q).runner = s.runner ∧
    (State.leaveUnit s q).gauge = s.gauge ∧
    (State.leaveUnit s q).cycle = s.cycle ∧
    (State.leaveUnit s q).infeed = s.infeed ∧
    (State.leaveUnit s q).jogger = s.jogger ∧
    (State.leaveUnit s q).inputs = s.inputs ∧
    (State.leaveUnit s q).channels = s.channels ∧
    (State.leaveUnit s q).faults = s.faults ∧
    (State.leaveUnit s q).store = s.store ∧
    (State.leaveUnit s q).free = s.free ∧
    (State.leaveUnit s q).pending = s.pending ∧
    (State.leaveUnit s q).tape = s.tape := by
  generalize h : State.leaveUnit s q = r
  simp only [State.leaveUnit] at h
  (repeat' split at h) <;> subst h <;> simp

@[simp] theorem State.revoke_frame (s : State) :
    (State.revoke s).link = s.link ∧
    (State.revoke s).jobs = s.jobs ∧
    (State.revoke s).admission = s.admission ∧
    (State.revoke s).planner = s.planner ∧
    (State.revoke s).bankA = s.bankA ∧
    (State.revoke s).bankB = s.bankB ∧
    (State.revoke s).runner = s.runner ∧
    (State.revoke s).gauge = s.gauge ∧
    (State.revoke s).cycle = s.cycle ∧
    (State.revoke s).infeed = s.infeed ∧
    (State.revoke s).jogger = s.jogger ∧
    (State.revoke s).inputs = s.inputs ∧
    (State.revoke s).channels = s.channels ∧
    (State.revoke s).faults = s.faults ∧
    (State.revoke s).store = s.store ∧
    (State.revoke s).free = s.free ∧
    (State.revoke s).pending = s.pending ∧
    (State.revoke s).tape = s.tape := by
  simp [State.revoke]

end Sys2Proof.Machine
end

