-- ==== Sys2Proof/Laws/GaugeOps.lean ====
section
/-! SUPPORT. What each shared operation of the Gauge Axis leaves alone: one lemma for each operation. -/
namespace Sys2Proof.Machine

@[simp] theorem State.refNotice_frame (s : State) (r : RefRun) (result : StepResult) :
    (State.refNotice s r result).jobs = s.jobs ∧
    (State.refNotice s r result).admission = s.admission ∧
    (State.refNotice s r result).planner = s.planner ∧
    (State.refNotice s r result).bankA = s.bankA ∧
    (State.refNotice s r result).bankB = s.bankB ∧
    (State.refNotice s r result).runner = s.runner ∧
    (State.refNotice s r result).gauge = s.gauge ∧
    (State.refNotice s r result).cycle = s.cycle ∧
    (State.refNotice s r result).infeed = s.infeed ∧
    (State.refNotice s r result).jogger = s.jogger ∧
    (State.refNotice s r result).arbiter = s.arbiter ∧
    (State.refNotice s r result).inputs = s.inputs ∧
    (State.refNotice s r result).channels = s.channels ∧
    (State.refNotice s r result).faults = s.faults ∧
    (State.refNotice s r result).store = s.store ∧
    (State.refNotice s r result).free = s.free ∧
    (State.refNotice s r result).pending = s.pending ∧
    (State.refNotice s r result).tape = s.tape := by
  simp [State.refNotice]

@[simp] theorem State.startReference_frame (s : State) :
    (State.startReference s).link = s.link ∧
    (State.startReference s).jobs = s.jobs ∧
    (State.startReference s).admission = s.admission ∧
    (State.startReference s).planner = s.planner ∧
    (State.startReference s).bankA = s.bankA ∧
    (State.startReference s).bankB = s.bankB ∧
    (State.startReference s).runner = s.runner ∧
    (State.startReference s).cycle = s.cycle ∧
    (State.startReference s).infeed = s.infeed ∧
    (State.startReference s).jogger = s.jogger ∧
    (State.startReference s).arbiter = s.arbiter ∧
    (State.startReference s).inputs = s.inputs ∧
    (State.startReference s).channels = s.channels ∧
    (State.startReference s).faults = s.faults ∧
    (State.startReference s).store = s.store ∧
    (State.startReference s).free = s.free ∧
    (State.startReference s).pending = s.pending ∧
    (State.startReference s).tape = s.tape := by
  simp [State.startReference]

@[simp] theorem State.startMove_frame (s : State) (req : MoveReq) :
    (State.startMove s req).link = s.link ∧
    (State.startMove s req).jobs = s.jobs ∧
    (State.startMove s req).admission = s.admission ∧
    (State.startMove s req).planner = s.planner ∧
    (State.startMove s req).bankA = s.bankA ∧
    (State.startMove s req).bankB = s.bankB ∧
    (State.startMove s req).runner = s.runner ∧
    (State.startMove s req).cycle = s.cycle ∧
    (State.startMove s req).infeed = s.infeed ∧
    (State.startMove s req).jogger = s.jogger ∧
    (State.startMove s req).arbiter = s.arbiter ∧
    (State.startMove s req).inputs = s.inputs ∧
    (State.startMove s req).channels = s.channels ∧
    (State.startMove s req).faults = s.faults ∧
    (State.startMove s req).store = s.store ∧
    (State.startMove s req).free = s.free ∧
    (State.startMove s req).pending = s.pending ∧
    (State.startMove s req).tape = s.tape := by
  simp [State.startMove]

@[simp] theorem State.askMove_frame (s : State) (req : MoveReq) :
    (State.askMove s req).link = s.link ∧
    (State.askMove s req).jobs = s.jobs ∧
    (State.askMove s req).admission = s.admission ∧
    (State.askMove s req).planner = s.planner ∧
    (State.askMove s req).bankA = s.bankA ∧
    (State.askMove s req).bankB = s.bankB ∧
    (State.askMove s req).runner = s.runner ∧
    (State.askMove s req).cycle = s.cycle ∧
    (State.askMove s req).infeed = s.infeed ∧
    (State.askMove s req).jogger = s.jogger ∧
    (State.askMove s req).arbiter = s.arbiter ∧
    (State.askMove s req).inputs = s.inputs ∧
    (State.askMove s req).channels = s.channels ∧
    (State.askMove s req).faults = s.faults ∧
    (State.askMove s req).store = s.store ∧
    (State.askMove s req).free = s.free ∧
    (State.askMove s req).pending = s.pending ∧
    (State.askMove s req).tape = s.tape := by
  generalize h : State.askMove s req = r
  unfold State.askMove at h
  (repeat' split at h) <;> subst h <;> simp

@[simp] theorem State.interruptGauge_frame (s : State) :
    (State.interruptGauge s).jobs = s.jobs ∧
    (State.interruptGauge s).admission = s.admission ∧
    (State.interruptGauge s).planner = s.planner ∧
    (State.interruptGauge s).bankA = s.bankA ∧
    (State.interruptGauge s).bankB = s.bankB ∧
    (State.interruptGauge s).cycle = s.cycle ∧
    (State.interruptGauge s).infeed = s.infeed ∧
    (State.interruptGauge s).jogger = s.jogger ∧
    (State.interruptGauge s).arbiter = s.arbiter ∧
    (State.interruptGauge s).inputs = s.inputs ∧
    (State.interruptGauge s).channels = s.channels ∧
    (State.interruptGauge s).faults = s.faults ∧
    (State.interruptGauge s).store = s.store ∧
    (State.interruptGauge s).free = s.free ∧
    (State.interruptGauge s).pending = s.pending ∧
    (State.interruptGauge s).tape = s.tape := by
  generalize h : State.interruptGauge s = r
  simp only [State.interruptGauge] at h
  (repeat' split at h) <;> subst h <;> simp

@[simp] theorem State.faultAxis_frame (s : State) (valid : Bool) :
    (State.faultAxis s valid).link = s.link ∧
    (State.faultAxis s valid).jobs = s.jobs ∧
    (State.faultAxis s valid).admission = s.admission ∧
    (State.faultAxis s valid).planner = s.planner ∧
    (State.faultAxis s valid).bankA = s.bankA ∧
    (State.faultAxis s valid).bankB = s.bankB ∧
    (State.faultAxis s valid).cycle = s.cycle ∧
    (State.faultAxis s valid).infeed = s.infeed ∧
    (State.faultAxis s valid).jogger = s.jogger ∧
    (State.faultAxis s valid).arbiter = s.arbiter ∧
    (State.faultAxis s valid).inputs = s.inputs ∧
    (State.faultAxis s valid).channels = s.channels ∧
    (State.faultAxis s valid).faults = s.faults ∧
    (State.faultAxis s valid).store = s.store ∧
    (State.faultAxis s valid).free = s.free ∧
    (State.faultAxis s valid).pending = s.pending ∧
    (State.faultAxis s valid).tape = s.tape := by
  simp [State.faultAxis]

theorem axisUnfault_frame (s : State) (t : State) (h : axisUnfault s = some t) :
    t.link = s.link ∧ t.jobs = s.jobs ∧ t.admission = s.admission ∧ t.planner = s.planner ∧ t.bankA = s.bankA ∧ t.bankB = s.bankB ∧ t.runner = s.runner ∧ t.cycle = s.cycle ∧ t.infeed = s.infeed ∧ t.jogger = s.jogger ∧ t.arbiter = s.arbiter ∧ t.inputs = s.inputs ∧ t.channels = s.channels ∧ t.faults = s.faults ∧ t.store = s.store ∧ t.free = s.free ∧ t.pending = s.pending ∧ t.tape = s.tape := by
  unfold axisUnfault at h
  split at h
  · cases h; simp
  · cases h

end Sys2Proof.Machine
end

