-- ==== Sys2Proof/Laws/JobOps.lean ====
section
/-! SUPPORT. What each shared operation of the Job Table, the banks and the planner leaves alone: one lemma for each operation. -/
namespace Sys2Proof.Machine

@[simp] theorem State.setBank_frame (s : State) (bk : BankId) (x : Bank) :
    (State.setBank s bk x).link = s.link ∧
    (State.setBank s bk x).jobs = s.jobs ∧
    (State.setBank s bk x).admission = s.admission ∧
    (State.setBank s bk x).planner = s.planner ∧
    (State.setBank s bk x).runner = s.runner ∧
    (State.setBank s bk x).gauge = s.gauge ∧
    (State.setBank s bk x).cycle = s.cycle ∧
    (State.setBank s bk x).infeed = s.infeed ∧
    (State.setBank s bk x).jogger = s.jogger ∧
    (State.setBank s bk x).arbiter = s.arbiter ∧
    (State.setBank s bk x).inputs = s.inputs ∧
    (State.setBank s bk x).channels = s.channels ∧
    (State.setBank s bk x).faults = s.faults ∧
    (State.setBank s bk x).store = s.store ∧
    (State.setBank s bk x).free = s.free ∧
    (State.setBank s bk x).pending = s.pending ∧
    (State.setBank s bk x).tape = s.tape := by
  unfold State.setBank
  split <;> simp

@[simp] theorem State.emptyBank_frame (s : State) (bk : Option BankId) :
    (State.emptyBank s bk).link = s.link ∧
    (State.emptyBank s bk).jobs = s.jobs ∧
    (State.emptyBank s bk).admission = s.admission ∧
    (State.emptyBank s bk).planner = s.planner ∧
    (State.emptyBank s bk).runner = s.runner ∧
    (State.emptyBank s bk).gauge = s.gauge ∧
    (State.emptyBank s bk).cycle = s.cycle ∧
    (State.emptyBank s bk).infeed = s.infeed ∧
    (State.emptyBank s bk).jogger = s.jogger ∧
    (State.emptyBank s bk).arbiter = s.arbiter ∧
    (State.emptyBank s bk).inputs = s.inputs ∧
    (State.emptyBank s bk).channels = s.channels ∧
    (State.emptyBank s bk).faults = s.faults ∧
    (State.emptyBank s bk).store = s.store ∧
    (State.emptyBank s bk).free = s.free ∧
    (State.emptyBank s bk).pending = s.pending ∧
    (State.emptyBank s bk).tape = s.tape := by
  unfold State.emptyBank
  split <;> simp

@[simp] theorem State.onEntry_frame (s : State) (n : Nat) (f : JobEntry → JobEntry) :
    (State.onEntry s n f).link = s.link ∧
    (State.onEntry s n f).admission = s.admission ∧
    (State.onEntry s n f).planner = s.planner ∧
    (State.onEntry s n f).bankA = s.bankA ∧
    (State.onEntry s n f).bankB = s.bankB ∧
    (State.onEntry s n f).runner = s.runner ∧
    (State.onEntry s n f).gauge = s.gauge ∧
    (State.onEntry s n f).cycle = s.cycle ∧
    (State.onEntry s n f).infeed = s.infeed ∧
    (State.onEntry s n f).jogger = s.jogger ∧
    (State.onEntry s n f).arbiter = s.arbiter ∧
    (State.onEntry s n f).inputs = s.inputs ∧
    (State.onEntry s n f).channels = s.channels ∧
    (State.onEntry s n f).faults = s.faults ∧
    (State.onEntry s n f).store = s.store ∧
    (State.onEntry s n f).free = s.free ∧
    (State.onEntry s n f).pending = s.pending ∧
    (State.onEntry s n f).tape = s.tape := by
  simp [State.onEntry]

@[simp] theorem State.dropEntry_frame (s : State) (n : Nat) :
    (State.dropEntry s n).link = s.link ∧
    (State.dropEntry s n).admission = s.admission ∧
    (State.dropEntry s n).planner = s.planner ∧
    (State.dropEntry s n).bankA = s.bankA ∧
    (State.dropEntry s n).bankB = s.bankB ∧
    (State.dropEntry s n).runner = s.runner ∧
    (State.dropEntry s n).gauge = s.gauge ∧
    (State.dropEntry s n).cycle = s.cycle ∧
    (State.dropEntry s n).infeed = s.infeed ∧
    (State.dropEntry s n).jogger = s.jogger ∧
    (State.dropEntry s n).arbiter = s.arbiter ∧
    (State.dropEntry s n).inputs = s.inputs ∧
    (State.dropEntry s n).channels = s.channels ∧
    (State.dropEntry s n).faults = s.faults ∧
    (State.dropEntry s n).store = s.store ∧
    (State.dropEntry s n).free = s.free ∧
    (State.dropEntry s n).pending = s.pending ∧
    (State.dropEntry s n).tape = s.tape := by
  simp [State.dropEntry]

@[simp] theorem State.moveJob_frame (s : State) (n : Nat) (st : JobState) (why : JobReason) :
    (State.moveJob s n st why).admission = s.admission ∧
    (State.moveJob s n st why).planner = s.planner ∧
    (State.moveJob s n st why).bankA = s.bankA ∧
    (State.moveJob s n st why).bankB = s.bankB ∧
    (State.moveJob s n st why).runner = s.runner ∧
    (State.moveJob s n st why).gauge = s.gauge ∧
    (State.moveJob s n st why).cycle = s.cycle ∧
    (State.moveJob s n st why).infeed = s.infeed ∧
    (State.moveJob s n st why).jogger = s.jogger ∧
    (State.moveJob s n st why).arbiter = s.arbiter ∧
    (State.moveJob s n st why).inputs = s.inputs ∧
    (State.moveJob s n st why).channels = s.channels ∧
    (State.moveJob s n st why).faults = s.faults ∧
    (State.moveJob s n st why).store = s.store ∧
    (State.moveJob s n st why).free = s.free ∧
    (State.moveJob s n st why).pending = s.pending ∧
    (State.moveJob s n st why).tape = s.tape := by
  simp [State.moveJob]

@[simp] theorem State.endJob_frame (s : State) (e : JobEntry) (st : JobState) (why : JobReason) :
    (State.endJob s e st why).admission = s.admission ∧
    (State.endJob s e st why).planner = s.planner ∧
    (State.endJob s e st why).runner = s.runner ∧
    (State.endJob s e st why).gauge = s.gauge ∧
    (State.endJob s e st why).cycle = s.cycle ∧
    (State.endJob s e st why).infeed = s.infeed ∧
    (State.endJob s e st why).jogger = s.jogger ∧
    (State.endJob s e st why).arbiter = s.arbiter ∧
    (State.endJob s e st why).inputs = s.inputs ∧
    (State.endJob s e st why).channels = s.channels ∧
    (State.endJob s e st why).faults = s.faults ∧
    (State.endJob s e st why).store = s.store ∧
    (State.endJob s e st why).free = s.free ∧
    (State.endJob s e st why).pending = s.pending ∧
    (State.endJob s e st why).tape = s.tape := by
  simp [State.endJob]

@[simp] theorem State.startPlan_frame (s : State) (e : JobEntry) (bk : BankId) :
    (State.startPlan s e bk).admission = s.admission ∧
    (State.startPlan s e bk).runner = s.runner ∧
    (State.startPlan s e bk).gauge = s.gauge ∧
    (State.startPlan s e bk).cycle = s.cycle ∧
    (State.startPlan s e bk).infeed = s.infeed ∧
    (State.startPlan s e bk).jogger = s.jogger ∧
    (State.startPlan s e bk).arbiter = s.arbiter ∧
    (State.startPlan s e bk).inputs = s.inputs ∧
    (State.startPlan s e bk).channels = s.channels ∧
    (State.startPlan s e bk).faults = s.faults ∧
    (State.startPlan s e bk).store = s.store ∧
    (State.startPlan s e bk).free = s.free ∧
    (State.startPlan s e bk).pending = s.pending ∧
    (State.startPlan s e bk).tape = s.tape := by
  simp [State.startPlan]

theorem planStart_frame (s : State) (t : State) (h : planStart s = some t) :
    t.admission = s.admission ∧ t.runner = s.runner ∧ t.gauge = s.gauge ∧ t.cycle = s.cycle ∧ t.infeed = s.infeed ∧ t.jogger = s.jogger ∧ t.arbiter = s.arbiter ∧ t.inputs = s.inputs ∧ t.channels = s.channels ∧ t.faults = s.faults ∧ t.store = s.store ∧ t.free = s.free ∧ t.pending = s.pending ∧ t.tape = s.tape := by
  unfold planStart at h
  split at h
  · cases h; simp
  · cases h

@[simp] theorem State.withdrawCall_frame (s : State) :
    (State.withdrawCall s).link = s.link ∧
    (State.withdrawCall s).jobs = s.jobs ∧
    (State.withdrawCall s).admission = s.admission ∧
    (State.withdrawCall s).planner = s.planner ∧
    (State.withdrawCall s).bankA = s.bankA ∧
    (State.withdrawCall s).bankB = s.bankB ∧
    (State.withdrawCall s).runner = s.runner ∧
    (State.withdrawCall s).gauge = s.gauge ∧
    (State.withdrawCall s).cycle = s.cycle ∧
    (State.withdrawCall s).jogger = s.jogger ∧
    (State.withdrawCall s).arbiter = s.arbiter ∧
    (State.withdrawCall s).inputs = s.inputs ∧
    (State.withdrawCall s).channels = s.channels ∧
    (State.withdrawCall s).faults = s.faults ∧
    (State.withdrawCall s).store = s.store ∧
    (State.withdrawCall s).free = s.free ∧
    (State.withdrawCall s).pending = s.pending ∧
    (State.withdrawCall s).tape = s.tape := by
  simp [State.withdrawCall]

@[simp] theorem State.callJob_frame (s : State) (e : JobEntry) :
    (State.callJob s e).admission = s.admission ∧
    (State.callJob s e).planner = s.planner ∧
    (State.callJob s e).bankA = s.bankA ∧
    (State.callJob s e).bankB = s.bankB ∧
    (State.callJob s e).runner = s.runner ∧
    (State.callJob s e).gauge = s.gauge ∧
    (State.callJob s e).cycle = s.cycle ∧
    (State.callJob s e).jogger = s.jogger ∧
    (State.callJob s e).arbiter = s.arbiter ∧
    (State.callJob s e).inputs = s.inputs ∧
    (State.callJob s e).channels = s.channels ∧
    (State.callJob s e).faults = s.faults ∧
    (State.callJob s e).store = s.store ∧
    (State.callJob s e).free = s.free ∧
    (State.callJob s e).pending = s.pending ∧
    (State.callJob s e).tape = s.tape := by
  simp [State.callJob]

theorem turnerCall_frame (s : State) (t : State) (h : turnerCall s = some t) :
    t.admission = s.admission ∧ t.planner = s.planner ∧ t.bankA = s.bankA ∧ t.bankB = s.bankB ∧ t.runner = s.runner ∧ t.gauge = s.gauge ∧ t.cycle = s.cycle ∧ t.jogger = s.jogger ∧ t.arbiter = s.arbiter ∧ t.inputs = s.inputs ∧ t.channels = s.channels ∧ t.faults = s.faults ∧ t.store = s.store ∧ t.free = s.free ∧ t.pending = s.pending ∧ t.tape = s.tape := by
  unfold turnerCall at h
  split at h
  · cases h; simp
  · cases h

@[simp] theorem State.displace_frame (s : State) (e : JobEntry) :
    (State.displace s e).admission = s.admission ∧
    (State.displace s e).planner = s.planner ∧
    (State.displace s e).runner = s.runner ∧
    (State.displace s e).gauge = s.gauge ∧
    (State.displace s e).cycle = s.cycle ∧
    (State.displace s e).jogger = s.jogger ∧
    (State.displace s e).arbiter = s.arbiter ∧
    (State.displace s e).inputs = s.inputs ∧
    (State.displace s e).channels = s.channels ∧
    (State.displace s e).faults = s.faults ∧
    (State.displace s e).store = s.store ∧
    (State.displace s e).free = s.free ∧
    (State.displace s e).pending = s.pending ∧
    (State.displace s e).tape = s.tape := by
  unfold State.displace
  split <;> simp

theorem displacement_frame (s : State) (t : State) (h : displacement s = some t) :
    t.admission = s.admission ∧ t.planner = s.planner ∧ t.runner = s.runner ∧ t.gauge = s.gauge ∧ t.cycle = s.cycle ∧ t.jogger = s.jogger ∧ t.arbiter = s.arbiter ∧ t.inputs = s.inputs ∧ t.channels = s.channels ∧ t.faults = s.faults ∧ t.store = s.store ∧ t.free = s.free ∧ t.pending = s.pending ∧ t.tape = s.tape := by
  unfold displacement at h
  (repeat' split at h) <;> cases h <;> simp

@[simp] theorem State.checkDone_frame (s : State) (n : Nat) :
    (State.checkDone s n).admission = s.admission ∧
    (State.checkDone s n).planner = s.planner ∧
    (State.checkDone s n).runner = s.runner ∧
    (State.checkDone s n).gauge = s.gauge ∧
    (State.checkDone s n).cycle = s.cycle ∧
    (State.checkDone s n).infeed = s.infeed ∧
    (State.checkDone s n).jogger = s.jogger ∧
    (State.checkDone s n).arbiter = s.arbiter ∧
    (State.checkDone s n).inputs = s.inputs ∧
    (State.checkDone s n).channels = s.channels ∧
    (State.checkDone s n).faults = s.faults ∧
    (State.checkDone s n).store = s.store ∧
    (State.checkDone s n).free = s.free ∧
    (State.checkDone s n).pending = s.pending ∧
    (State.checkDone s n).tape = s.tape := by
  generalize h : State.checkDone s n = r
  unfold State.checkDone at h
  (repeat' split at h) <;> subst h <;> simp

@[simp] theorem State.countLift_frame (s : State) (n : Nat) :
    (State.countLift s n).admission = s.admission ∧
    (State.countLift s n).planner = s.planner ∧
    (State.countLift s n).runner = s.runner ∧
    (State.countLift s n).gauge = s.gauge ∧
    (State.countLift s n).cycle = s.cycle ∧
    (State.countLift s n).infeed = s.infeed ∧
    (State.countLift s n).jogger = s.jogger ∧
    (State.countLift s n).arbiter = s.arbiter ∧
    (State.countLift s n).inputs = s.inputs ∧
    (State.countLift s n).channels = s.channels ∧
    (State.countLift s n).faults = s.faults ∧
    (State.countLift s n).store = s.store ∧
    (State.countLift s n).free = s.free ∧
    (State.countLift s n).pending = s.pending ∧
    (State.countLift s n).tape = s.tape := by
  simp [State.countLift]

@[simp] theorem State.setFinal_frame (s : State) (n count : Nat) :
    (State.setFinal s n count).admission = s.admission ∧
    (State.setFinal s n count).planner = s.planner ∧
    (State.setFinal s n count).runner = s.runner ∧
    (State.setFinal s n count).gauge = s.gauge ∧
    (State.setFinal s n count).cycle = s.cycle ∧
    (State.setFinal s n count).infeed = s.infeed ∧
    (State.setFinal s n count).jogger = s.jogger ∧
    (State.setFinal s n count).arbiter = s.arbiter ∧
    (State.setFinal s n count).inputs = s.inputs ∧
    (State.setFinal s n count).channels = s.channels ∧
    (State.setFinal s n count).faults = s.faults ∧
    (State.setFinal s n count).store = s.store ∧
    (State.setFinal s n count).free = s.free ∧
    (State.setFinal s n count).pending = s.pending ∧
    (State.setFinal s n count).tape = s.tape := by
  simp [State.setFinal]

@[simp] theorem State.planReady_frame (s : State) (op : PlanOp) (steps : List CutStep) :
    (State.planReady s op steps).admission = s.admission ∧
    (State.planReady s op steps).runner = s.runner ∧
    (State.planReady s op steps).gauge = s.gauge ∧
    (State.planReady s op steps).cycle = s.cycle ∧
    (State.planReady s op steps).infeed = s.infeed ∧
    (State.planReady s op steps).jogger = s.jogger ∧
    (State.planReady s op steps).arbiter = s.arbiter ∧
    (State.planReady s op steps).inputs = s.inputs ∧
    (State.planReady s op steps).channels = s.channels ∧
    (State.planReady s op steps).faults = s.faults ∧
    (State.planReady s op steps).store = s.store ∧
    (State.planReady s op steps).free = s.free ∧
    (State.planReady s op steps).pending = s.pending ∧
    (State.planReady s op steps).tape = s.tape := by
  simp [State.planReady]

@[simp] theorem State.planRefuse_frame (s : State) (op : PlanOp) (why : JobReason) :
    (State.planRefuse s op why).admission = s.admission ∧
    (State.planRefuse s op why).runner = s.runner ∧
    (State.planRefuse s op why).gauge = s.gauge ∧
    (State.planRefuse s op why).cycle = s.cycle ∧
    (State.planRefuse s op why).infeed = s.infeed ∧
    (State.planRefuse s op why).jogger = s.jogger ∧
    (State.planRefuse s op why).arbiter = s.arbiter ∧
    (State.planRefuse s op why).inputs = s.inputs ∧
    (State.planRefuse s op why).channels = s.channels ∧
    (State.planRefuse s op why).faults = s.faults ∧
    (State.planRefuse s op why).store = s.store ∧
    (State.planRefuse s op why).free = s.free ∧
    (State.planRefuse s op why).pending = s.pending ∧
    (State.planRefuse s op why).tape = s.tape := by
  simp [State.planRefuse]

@[simp] theorem State.takeBank_frame (s : State) (bk : BankId) :
    (State.takeBank s bk).link = s.link ∧
    (State.takeBank s bk).jobs = s.jobs ∧
    (State.takeBank s bk).admission = s.admission ∧
    (State.takeBank s bk).planner = s.planner ∧
    (State.takeBank s bk).runner = s.runner ∧
    (State.takeBank s bk).gauge = s.gauge ∧
    (State.takeBank s bk).cycle = s.cycle ∧
    (State.takeBank s bk).infeed = s.infeed ∧
    (State.takeBank s bk).jogger = s.jogger ∧
    (State.takeBank s bk).arbiter = s.arbiter ∧
    (State.takeBank s bk).inputs = s.inputs ∧
    (State.takeBank s bk).channels = s.channels ∧
    (State.takeBank s bk).faults = s.faults ∧
    (State.takeBank s bk).store = s.store ∧
    (State.takeBank s bk).free = s.free ∧
    (State.takeBank s bk).pending = s.pending ∧
    (State.takeBank s bk).tape = s.tape := by
  unfold State.takeBank
  split <;> simp

end Sys2Proof.Machine
end

