-- ==== Sys2Proof/Laws/RunnerOps.lean ====
section
/-! SUPPORT. What each shared operation of the Program Runner leaves alone: one lemma for each operation. -/
namespace Sys2Proof.Machine

@[simp] theorem State.setPhase_frame (s : State) (p : StepPhase) :
    (State.setPhase s p).link = s.link ∧
    (State.setPhase s p).jobs = s.jobs ∧
    (State.setPhase s p).admission = s.admission ∧
    (State.setPhase s p).planner = s.planner ∧
    (State.setPhase s p).bankA = s.bankA ∧
    (State.setPhase s p).bankB = s.bankB ∧
    (State.setPhase s p).gauge = s.gauge ∧
    (State.setPhase s p).cycle = s.cycle ∧
    (State.setPhase s p).infeed = s.infeed ∧
    (State.setPhase s p).jogger = s.jogger ∧
    (State.setPhase s p).arbiter = s.arbiter ∧
    (State.setPhase s p).inputs = s.inputs ∧
    (State.setPhase s p).channels = s.channels ∧
    (State.setPhase s p).faults = s.faults ∧
    (State.setPhase s p).store = s.store ∧
    (State.setPhase s p).free = s.free ∧
    (State.setPhase s p).pending = s.pending ∧
    (State.setPhase s p).tape = s.tape := by
  simp [State.setPhase]

@[simp] theorem State.stepNotice_frame (s : State) (t : CutStep) (result : StepResult) (move : MoveResult) :
    (State.stepNotice s t result move).jobs = s.jobs ∧
    (State.stepNotice s t result move).admission = s.admission ∧
    (State.stepNotice s t result move).planner = s.planner ∧
    (State.stepNotice s t result move).bankA = s.bankA ∧
    (State.stepNotice s t result move).bankB = s.bankB ∧
    (State.stepNotice s t result move).runner = s.runner ∧
    (State.stepNotice s t result move).gauge = s.gauge ∧
    (State.stepNotice s t result move).cycle = s.cycle ∧
    (State.stepNotice s t result move).infeed = s.infeed ∧
    (State.stepNotice s t result move).jogger = s.jogger ∧
    (State.stepNotice s t result move).arbiter = s.arbiter ∧
    (State.stepNotice s t result move).inputs = s.inputs ∧
    (State.stepNotice s t result move).channels = s.channels ∧
    (State.stepNotice s t result move).faults = s.faults ∧
    (State.stepNotice s t result move).store = s.store ∧
    (State.stepNotice s t result move).free = s.free ∧
    (State.stepNotice s t result move).pending = s.pending ∧
    (State.stepNotice s t result move).tape = s.tape := by
  unfold State.stepNotice
  split <;> simp

@[simp] theorem State.checkPlate_frame (s : State) (plate : Bool) :
    (State.checkPlate s plate).jobs = s.jobs ∧
    (State.checkPlate s plate).admission = s.admission ∧
    (State.checkPlate s plate).planner = s.planner ∧
    (State.checkPlate s plate).bankA = s.bankA ∧
    (State.checkPlate s plate).bankB = s.bankB ∧
    (State.checkPlate s plate).gauge = s.gauge ∧
    (State.checkPlate s plate).cycle = s.cycle ∧
    (State.checkPlate s plate).infeed = s.infeed ∧
    (State.checkPlate s plate).jogger = s.jogger ∧
    (State.checkPlate s plate).arbiter = s.arbiter ∧
    (State.checkPlate s plate).inputs = s.inputs ∧
    (State.checkPlate s plate).channels = s.channels ∧
    (State.checkPlate s plate).faults = s.faults ∧
    (State.checkPlate s plate).store = s.store ∧
    (State.checkPlate s plate).free = s.free ∧
    (State.checkPlate s plate).pending = s.pending ∧
    (State.checkPlate s plate).tape = s.tape := by
  unfold State.checkPlate
  split <;> simp

@[simp] theorem State.startStep_frame (s : State) :
    (State.startStep s).jobs = s.jobs ∧
    (State.startStep s).admission = s.admission ∧
    (State.startStep s).planner = s.planner ∧
    (State.startStep s).bankA = s.bankA ∧
    (State.startStep s).bankB = s.bankB ∧
    (State.startStep s).gauge = s.gauge ∧
    (State.startStep s).cycle = s.cycle ∧
    (State.startStep s).infeed = s.infeed ∧
    (State.startStep s).jogger = s.jogger ∧
    (State.startStep s).arbiter = s.arbiter ∧
    (State.startStep s).inputs = s.inputs ∧
    (State.startStep s).channels = s.channels ∧
    (State.startStep s).faults = s.faults ∧
    (State.startStep s).store = s.store ∧
    (State.startStep s).free = s.free ∧
    (State.startStep s).pending = s.pending ∧
    (State.startStep s).tape = s.tape := by
  generalize h : State.startStep s = r
  simp only [State.startStep] at h
  (repeat' split at h) <;> subst h <;> simp

@[simp] theorem State.beginStep_frame (s : State) :
    (State.beginStep s).jobs = s.jobs ∧
    (State.beginStep s).admission = s.admission ∧
    (State.beginStep s).planner = s.planner ∧
    (State.beginStep s).bankA = s.bankA ∧
    (State.beginStep s).bankB = s.bankB ∧
    (State.beginStep s).gauge = s.gauge ∧
    (State.beginStep s).cycle = s.cycle ∧
    (State.beginStep s).infeed = s.infeed ∧
    (State.beginStep s).jogger = s.jogger ∧
    (State.beginStep s).arbiter = s.arbiter ∧
    (State.beginStep s).inputs = s.inputs ∧
    (State.beginStep s).channels = s.channels ∧
    (State.beginStep s).faults = s.faults ∧
    (State.beginStep s).store = s.store ∧
    (State.beginStep s).free = s.free ∧
    (State.beginStep s).pending = s.pending ∧
    (State.beginStep s).tape = s.tape := by
  unfold State.beginStep
  split <;> simp

@[simp] theorem State.endLift_frame (s : State) :
    (State.endLift s).admission = s.admission ∧
    (State.endLift s).planner = s.planner ∧
    (State.endLift s).gauge = s.gauge ∧
    (State.endLift s).cycle = s.cycle ∧
    (State.endLift s).infeed = s.infeed ∧
    (State.endLift s).jogger = s.jogger ∧
    (State.endLift s).arbiter = s.arbiter ∧
    (State.endLift s).inputs = s.inputs ∧
    (State.endLift s).channels = s.channels ∧
    (State.endLift s).faults = s.faults ∧
    (State.endLift s).store = s.store ∧
    (State.endLift s).free = s.free ∧
    (State.endLift s).pending = s.pending ∧
    (State.endLift s).tape = s.tape := by
  unfold State.endLift
  split <;> simp

@[simp] theorem State.completeStep_frame (s : State) :
    (State.completeStep s).admission = s.admission ∧
    (State.completeStep s).planner = s.planner ∧
    (State.completeStep s).gauge = s.gauge ∧
    (State.completeStep s).cycle = s.cycle ∧
    (State.completeStep s).infeed = s.infeed ∧
    (State.completeStep s).jogger = s.jogger ∧
    (State.completeStep s).arbiter = s.arbiter ∧
    (State.completeStep s).inputs = s.inputs ∧
    (State.completeStep s).channels = s.channels ∧
    (State.completeStep s).faults = s.faults ∧
    (State.completeStep s).store = s.store ∧
    (State.completeStep s).free = s.free ∧
    (State.completeStep s).pending = s.pending ∧
    (State.completeStep s).tape = s.tape := by
  generalize h : State.completeStep s = r
  simp only [State.completeStep] at h
  (repeat' split at h) <;> subst h <;> simp

@[simp] theorem State.resumeHeld_frame (s : State) :
    (State.resumeHeld s).admission = s.admission ∧
    (State.resumeHeld s).planner = s.planner ∧
    (State.resumeHeld s).gauge = s.gauge ∧
    (State.resumeHeld s).cycle = s.cycle ∧
    (State.resumeHeld s).infeed = s.infeed ∧
    (State.resumeHeld s).jogger = s.jogger ∧
    (State.resumeHeld s).arbiter = s.arbiter ∧
    (State.resumeHeld s).inputs = s.inputs ∧
    (State.resumeHeld s).channels = s.channels ∧
    (State.resumeHeld s).faults = s.faults ∧
    (State.resumeHeld s).store = s.store ∧
    (State.resumeHeld s).free = s.free ∧
    (State.resumeHeld s).pending = s.pending ∧
    (State.resumeHeld s).tape = s.tape := by
  generalize h : State.resumeHeld s = r
  unfold State.resumeHeld at h
  (repeat' split at h) <;> subst h <;> simp

@[simp] theorem State.loadLift_frame (s : State) (l : LiftRec) :
    (State.loadLift s l).jobs = s.jobs ∧
    (State.loadLift s l).admission = s.admission ∧
    (State.loadLift s l).planner = s.planner ∧
    (State.loadLift s l).gauge = s.gauge ∧
    (State.loadLift s l).cycle = s.cycle ∧
    (State.loadLift s l).infeed = s.infeed ∧
    (State.loadLift s l).jogger = s.jogger ∧
    (State.loadLift s l).arbiter = s.arbiter ∧
    (State.loadLift s l).inputs = s.inputs ∧
    (State.loadLift s l).channels = s.channels ∧
    (State.loadLift s l).faults = s.faults ∧
    (State.loadLift s l).store = s.store ∧
    (State.loadLift s l).free = s.free ∧
    (State.loadLift s l).pending = s.pending ∧
    (State.loadLift s l).tape = s.tape := by
  generalize h : State.loadLift s l = r
  unfold State.loadLift at h
  (repeat' split at h) <;> subst h <;> simp

@[simp] theorem State.markPartial_frame (s : State) :
    (State.markPartial s).link = s.link ∧
    (State.markPartial s).jobs = s.jobs ∧
    (State.markPartial s).admission = s.admission ∧
    (State.markPartial s).planner = s.planner ∧
    (State.markPartial s).bankA = s.bankA ∧
    (State.markPartial s).bankB = s.bankB ∧
    (State.markPartial s).gauge = s.gauge ∧
    (State.markPartial s).cycle = s.cycle ∧
    (State.markPartial s).infeed = s.infeed ∧
    (State.markPartial s).jogger = s.jogger ∧
    (State.markPartial s).arbiter = s.arbiter ∧
    (State.markPartial s).inputs = s.inputs ∧
    (State.markPartial s).channels = s.channels ∧
    (State.markPartial s).faults = s.faults ∧
    (State.markPartial s).store = s.store ∧
    (State.markPartial s).free = s.free ∧
    (State.markPartial s).pending = s.pending ∧
    (State.markPartial s).tape = s.tape := by
  unfold State.markPartial
  split <;> simp

@[simp] theorem State.completeCut_frame (s : State) (h : Nat) :
    (State.completeCut s h).link = s.link ∧
    (State.completeCut s h).jobs = s.jobs ∧
    (State.completeCut s h).admission = s.admission ∧
    (State.completeCut s h).planner = s.planner ∧
    (State.completeCut s h).bankA = s.bankA ∧
    (State.completeCut s h).bankB = s.bankB ∧
    (State.completeCut s h).gauge = s.gauge ∧
    (State.completeCut s h).cycle = s.cycle ∧
    (State.completeCut s h).infeed = s.infeed ∧
    (State.completeCut s h).jogger = s.jogger ∧
    (State.completeCut s h).arbiter = s.arbiter ∧
    (State.completeCut s h).inputs = s.inputs ∧
    (State.completeCut s h).channels = s.channels ∧
    (State.completeCut s h).faults = s.faults ∧
    (State.completeCut s h).store = s.store ∧
    (State.completeCut s h).free = s.free ∧
    (State.completeCut s h).pending = s.pending ∧
    (State.completeCut s h).tape = s.tape := by
  generalize h : State.completeCut s h = r
  unfold State.completeCut at h
  (repeat' split at h) <;> subst h <;> simp

@[simp] theorem State.stepAborted_frame (s : State) :
    (State.stepAborted s).jobs = s.jobs ∧
    (State.stepAborted s).admission = s.admission ∧
    (State.stepAborted s).planner = s.planner ∧
    (State.stepAborted s).bankA = s.bankA ∧
    (State.stepAborted s).bankB = s.bankB ∧
    (State.stepAborted s).gauge = s.gauge ∧
    (State.stepAborted s).cycle = s.cycle ∧
    (State.stepAborted s).infeed = s.infeed ∧
    (State.stepAborted s).jogger = s.jogger ∧
    (State.stepAborted s).arbiter = s.arbiter ∧
    (State.stepAborted s).inputs = s.inputs ∧
    (State.stepAborted s).channels = s.channels ∧
    (State.stepAborted s).faults = s.faults ∧
    (State.stepAborted s).store = s.store ∧
    (State.stepAborted s).free = s.free ∧
    (State.stepAborted s).pending = s.pending ∧
    (State.stepAborted s).tape = s.tape := by
  unfold State.stepAborted
  split <;> simp

@[simp] theorem State.takeCycleEnd_frame (s : State) (counted : Bool) :
    (State.takeCycleEnd s counted).jobs = s.jobs ∧
    (State.takeCycleEnd s counted).admission = s.admission ∧
    (State.takeCycleEnd s counted).planner = s.planner ∧
    (State.takeCycleEnd s counted).bankA = s.bankA ∧
    (State.takeCycleEnd s counted).bankB = s.bankB ∧
    (State.takeCycleEnd s counted).gauge = s.gauge ∧
    (State.takeCycleEnd s counted).cycle = s.cycle ∧
    (State.takeCycleEnd s counted).infeed = s.infeed ∧
    (State.takeCycleEnd s counted).jogger = s.jogger ∧
    (State.takeCycleEnd s counted).arbiter = s.arbiter ∧
    (State.takeCycleEnd s counted).inputs = s.inputs ∧
    (State.takeCycleEnd s counted).channels = s.channels ∧
    (State.takeCycleEnd s counted).faults = s.faults ∧
    (State.takeCycleEnd s counted).store = s.store ∧
    (State.takeCycleEnd s counted).free = s.free ∧
    (State.takeCycleEnd s counted).pending = s.pending ∧
    (State.takeCycleEnd s counted).tape = s.tape := by
  generalize h : State.takeCycleEnd s counted = r
  unfold State.takeCycleEnd at h
  (repeat' split at h) <;> subst h <;> simp

@[simp] theorem State.inspectFirst_frame (s : State) (d : Disposition) :
    (State.inspectFirst s d).jobs = s.jobs ∧
    (State.inspectFirst s d).admission = s.admission ∧
    (State.inspectFirst s d).planner = s.planner ∧
    (State.inspectFirst s d).bankA = s.bankA ∧
    (State.inspectFirst s d).bankB = s.bankB ∧
    (State.inspectFirst s d).gauge = s.gauge ∧
    (State.inspectFirst s d).cycle = s.cycle ∧
    (State.inspectFirst s d).infeed = s.infeed ∧
    (State.inspectFirst s d).jogger = s.jogger ∧
    (State.inspectFirst s d).arbiter = s.arbiter ∧
    (State.inspectFirst s d).inputs = s.inputs ∧
    (State.inspectFirst s d).channels = s.channels ∧
    (State.inspectFirst s d).faults = s.faults ∧
    (State.inspectFirst s d).store = s.store ∧
    (State.inspectFirst s d).free = s.free ∧
    (State.inspectFirst s d).pending = s.pending ∧
    (State.inspectFirst s d).tape = s.tape := by
  unfold State.inspectFirst
  split <;> simp

@[simp] theorem State.endTakeaway_frame (s : State) (t : CutStep) (c : CutOff) :
    (State.endTakeaway s t c).admission = s.admission ∧
    (State.endTakeaway s t c).planner = s.planner ∧
    (State.endTakeaway s t c).gauge = s.gauge ∧
    (State.endTakeaway s t c).cycle = s.cycle ∧
    (State.endTakeaway s t c).infeed = s.infeed ∧
    (State.endTakeaway s t c).jogger = s.jogger ∧
    (State.endTakeaway s t c).arbiter = s.arbiter ∧
    (State.endTakeaway s t c).inputs = s.inputs ∧
    (State.endTakeaway s t c).channels = s.channels ∧
    (State.endTakeaway s t c).faults = s.faults ∧
    (State.endTakeaway s t c).store = s.store ∧
    (State.endTakeaway s t c).free = s.free ∧
    (State.endTakeaway s t c).pending = s.pending ∧
    (State.endTakeaway s t c).tape = s.tape := by
  simp [State.endTakeaway]

theorem takeawayEnd_frame (s : State) (t : State) (h : takeawayEnd s = some t) :
    t.admission = s.admission ∧ t.planner = s.planner ∧ t.gauge = s.gauge ∧ t.cycle = s.cycle ∧ t.infeed = s.infeed ∧ t.jogger = s.jogger ∧ t.arbiter = s.arbiter ∧ t.inputs = s.inputs ∧ t.channels = s.channels ∧ t.faults = s.faults ∧ t.store = s.store ∧ t.free = s.free ∧ t.pending = s.pending ∧ t.tape = s.tape := by
  unfold takeawayEnd at h
  (repeat' split at h) <;> cases h <;> simp

@[simp] theorem State.endTake_frame (s : State) (t : CutStep) (d : TakeDisposition) :
    (State.endTake s t d).admission = s.admission ∧
    (State.endTake s t d).planner = s.planner ∧
    (State.endTake s t d).gauge = s.gauge ∧
    (State.endTake s t d).cycle = s.cycle ∧
    (State.endTake s t d).infeed = s.infeed ∧
    (State.endTake s t d).jogger = s.jogger ∧
    (State.endTake s t d).arbiter = s.arbiter ∧
    (State.endTake s t d).inputs = s.inputs ∧
    (State.endTake s t d).channels = s.channels ∧
    (State.endTake s t d).faults = s.faults ∧
    (State.endTake s t d).store = s.store ∧
    (State.endTake s t d).free = s.free ∧
    (State.endTake s t d).pending = s.pending ∧
    (State.endTake s t d).tape = s.tape := by
  simp [State.endTake]

theorem takeEnd_frame (s : State) (t : State) (h : takeEnd s = some t) :
    t.admission = s.admission ∧ t.planner = s.planner ∧ t.gauge = s.gauge ∧ t.cycle = s.cycle ∧ t.infeed = s.infeed ∧ t.jogger = s.jogger ∧ t.arbiter = s.arbiter ∧ t.inputs = s.inputs ∧ t.channels = s.channels ∧ t.faults = s.faults ∧ t.store = s.store ∧ t.free = s.free ∧ t.pending = s.pending ∧ t.tape = s.tape := by
  unfold takeEnd at h
  (repeat' split at h) <;> cases h <;> simp

theorem liftEndLeave_frame (s : State) (t : State) (h : liftEndLeave s = some t) :
    t.link = s.link ∧ t.jobs = s.jobs ∧ t.admission = s.admission ∧ t.planner = s.planner ∧ t.bankA = s.bankA ∧ t.bankB = s.bankB ∧ t.gauge = s.gauge ∧ t.cycle = s.cycle ∧ t.infeed = s.infeed ∧ t.jogger = s.jogger ∧ t.arbiter = s.arbiter ∧ t.inputs = s.inputs ∧ t.channels = s.channels ∧ t.faults = s.faults ∧ t.store = s.store ∧ t.free = s.free ∧ t.pending = s.pending ∧ t.tape = s.tape := by
  unfold liftEndLeave at h
  split at h
  · cases h; simp
  · cases h

theorem prepareLeave_frame (s : State) (t : State) (h : prepareLeave s = some t) :
    t.jobs = s.jobs ∧ t.admission = s.admission ∧ t.planner = s.planner ∧ t.bankA = s.bankA ∧ t.bankB = s.bankB ∧ t.gauge = s.gauge ∧ t.cycle = s.cycle ∧ t.infeed = s.infeed ∧ t.jogger = s.jogger ∧ t.arbiter = s.arbiter ∧ t.inputs = s.inputs ∧ t.channels = s.channels ∧ t.faults = s.faults ∧ t.store = s.store ∧ t.free = s.free ∧ t.pending = s.pending ∧ t.tape = s.tape := by
  unfold prepareLeave at h
  (repeat' split at h) <;> cases h <;> simp

theorem askStep_frame (s : State) (t : State) (h : askStep s = some t) :
    t.link = s.link ∧ t.jobs = s.jobs ∧ t.admission = s.admission ∧ t.planner = s.planner ∧ t.bankA = s.bankA ∧ t.bankB = s.bankB ∧ t.cycle = s.cycle ∧ t.infeed = s.infeed ∧ t.jogger = s.jogger ∧ t.arbiter = s.arbiter ∧ t.inputs = s.inputs ∧ t.channels = s.channels ∧ t.faults = s.faults ∧ t.store = s.store ∧ t.free = s.free ∧ t.pending = s.pending ∧ t.tape = s.tape := by
  unfold askStep at h
  (repeat' split at h) <;> cases h <;> simp

theorem askHandover_frame (s : State) (t : State) (h : askHandover s = some t) :
    t.link = s.link ∧ t.jobs = s.jobs ∧ t.admission = s.admission ∧ t.planner = s.planner ∧ t.bankA = s.bankA ∧ t.bankB = s.bankB ∧ t.cycle = s.cycle ∧ t.infeed = s.infeed ∧ t.jogger = s.jogger ∧ t.arbiter = s.arbiter ∧ t.inputs = s.inputs ∧ t.channels = s.channels ∧ t.faults = s.faults ∧ t.store = s.store ∧ t.free = s.free ∧ t.pending = s.pending ∧ t.tape = s.tape := by
  unfold askHandover at h
  (repeat' split at h) <;> cases h <;> simp

@[simp] theorem State.moveReported_frame (s : State) (m : MoveResult) :
    (State.moveReported s m).jobs = s.jobs ∧
    (State.moveReported s m).admission = s.admission ∧
    (State.moveReported s m).planner = s.planner ∧
    (State.moveReported s m).bankA = s.bankA ∧
    (State.moveReported s m).bankB = s.bankB ∧
    (State.moveReported s m).gauge = s.gauge ∧
    (State.moveReported s m).cycle = s.cycle ∧
    (State.moveReported s m).infeed = s.infeed ∧
    (State.moveReported s m).jogger = s.jogger ∧
    (State.moveReported s m).arbiter = s.arbiter ∧
    (State.moveReported s m).inputs = s.inputs ∧
    (State.moveReported s m).channels = s.channels ∧
    (State.moveReported s m).faults = s.faults ∧
    (State.moveReported s m).store = s.store ∧
    (State.moveReported s m).free = s.free ∧
    (State.moveReported s m).pending = s.pending ∧
    (State.moveReported s m).tape = s.tape := by
  generalize h : State.moveReported s m = r
  simp only [State.moveReported] at h
  (repeat' split at h) <;> subst h <;> simp

@[simp] theorem State.clearRunner_frame (s : State) :
    (State.clearRunner s).jobs = s.jobs ∧
    (State.clearRunner s).admission = s.admission ∧
    (State.clearRunner s).planner = s.planner ∧
    (State.clearRunner s).bankA = s.bankA ∧
    (State.clearRunner s).bankB = s.bankB ∧
    (State.clearRunner s).gauge = s.gauge ∧
    (State.clearRunner s).cycle = s.cycle ∧
    (State.clearRunner s).infeed = s.infeed ∧
    (State.clearRunner s).jogger = s.jogger ∧
    (State.clearRunner s).arbiter = s.arbiter ∧
    (State.clearRunner s).inputs = s.inputs ∧
    (State.clearRunner s).channels = s.channels ∧
    (State.clearRunner s).faults = s.faults ∧
    (State.clearRunner s).store = s.store ∧
    (State.clearRunner s).free = s.free ∧
    (State.clearRunner s).pending = s.pending ∧
    (State.clearRunner s).tape = s.tape := by
  simp [State.clearRunner]

end Sys2Proof.Machine
end

