-- ==== Sys2Proof/Laws/CycleOps.lean ====
section
/-! SUPPORT. What each shared operation of the Cut Cycle unit leaves alone: one lemma for each operation. -/
namespace Sys2Proof.Machine

@[simp] theorem State.raiseCut_frame (s : State) :
    (State.raiseCut s).link = s.link ∧
    (State.raiseCut s).jobs = s.jobs ∧
    (State.raiseCut s).admission = s.admission ∧
    (State.raiseCut s).planner = s.planner ∧
    (State.raiseCut s).bankA = s.bankA ∧
    (State.raiseCut s).bankB = s.bankB ∧
    (State.raiseCut s).runner = s.runner ∧
    (State.raiseCut s).gauge = s.gauge ∧
    (State.raiseCut s).infeed = s.infeed ∧
    (State.raiseCut s).jogger = s.jogger ∧
    (State.raiseCut s).inputs = s.inputs ∧
    (State.raiseCut s).channels = s.channels ∧
    (State.raiseCut s).faults = s.faults ∧
    (State.raiseCut s).store = s.store ∧
    (State.raiseCut s).free = s.free ∧
    (State.raiseCut s).pending = s.pending ∧
    (State.raiseCut s).tape = s.tape := by
  simp [State.raiseCut]

@[simp] theorem State.raiseReturn_frame (s : State) :
    (State.raiseReturn s).link = s.link ∧
    (State.raiseReturn s).jobs = s.jobs ∧
    (State.raiseReturn s).admission = s.admission ∧
    (State.raiseReturn s).planner = s.planner ∧
    (State.raiseReturn s).bankA = s.bankA ∧
    (State.raiseReturn s).bankB = s.bankB ∧
    (State.raiseReturn s).runner = s.runner ∧
    (State.raiseReturn s).gauge = s.gauge ∧
    (State.raiseReturn s).infeed = s.infeed ∧
    (State.raiseReturn s).jogger = s.jogger ∧
    (State.raiseReturn s).inputs = s.inputs ∧
    (State.raiseReturn s).channels = s.channels ∧
    (State.raiseReturn s).faults = s.faults ∧
    (State.raiseReturn s).store = s.store ∧
    (State.raiseReturn s).free = s.free ∧
    (State.raiseReturn s).pending = s.pending ∧
    (State.raiseReturn s).tape = s.tape := by
  simp [State.raiseReturn]

@[simp] theorem State.engage_frame (s : State) :
    (State.engage s).link = s.link ∧
    (State.engage s).jobs = s.jobs ∧
    (State.engage s).admission = s.admission ∧
    (State.engage s).planner = s.planner ∧
    (State.engage s).bankA = s.bankA ∧
    (State.engage s).bankB = s.bankB ∧
    (State.engage s).runner = s.runner ∧
    (State.engage s).gauge = s.gauge ∧
    (State.engage s).infeed = s.infeed ∧
    (State.engage s).jogger = s.jogger ∧
    (State.engage s).inputs = s.inputs ∧
    (State.engage s).channels = s.channels ∧
    (State.engage s).faults = s.faults ∧
    (State.engage s).store = s.store ∧
    (State.engage s).free = s.free ∧
    (State.engage s).pending = s.pending ∧
    (State.engage s).tape = s.tape := by
  generalize h : State.engage s = r
  unfold State.engage at h
  (repeat' split at h) <;> subst h <;> simp

@[simp] theorem State.withdrawCycle_frame (s : State) :
    (State.withdrawCycle s).link = s.link ∧
    (State.withdrawCycle s).jobs = s.jobs ∧
    (State.withdrawCycle s).admission = s.admission ∧
    (State.withdrawCycle s).planner = s.planner ∧
    (State.withdrawCycle s).bankA = s.bankA ∧
    (State.withdrawCycle s).bankB = s.bankB ∧
    (State.withdrawCycle s).runner = s.runner ∧
    (State.withdrawCycle s).gauge = s.gauge ∧
    (State.withdrawCycle s).infeed = s.infeed ∧
    (State.withdrawCycle s).jogger = s.jogger ∧
    (State.withdrawCycle s).inputs = s.inputs ∧
    (State.withdrawCycle s).channels = s.channels ∧
    (State.withdrawCycle s).faults = s.faults ∧
    (State.withdrawCycle s).store = s.store ∧
    (State.withdrawCycle s).free = s.free ∧
    (State.withdrawCycle s).pending = s.pending ∧
    (State.withdrawCycle s).tape = s.tape := by
  simp [State.withdrawCycle]

@[simp] theorem State.withdrawCut_frame (s : State) :
    (State.withdrawCut s).link = s.link ∧
    (State.withdrawCut s).jobs = s.jobs ∧
    (State.withdrawCut s).admission = s.admission ∧
    (State.withdrawCut s).planner = s.planner ∧
    (State.withdrawCut s).bankA = s.bankA ∧
    (State.withdrawCut s).bankB = s.bankB ∧
    (State.withdrawCut s).runner = s.runner ∧
    (State.withdrawCut s).gauge = s.gauge ∧
    (State.withdrawCut s).infeed = s.infeed ∧
    (State.withdrawCut s).jogger = s.jogger ∧
    (State.withdrawCut s).inputs = s.inputs ∧
    (State.withdrawCut s).channels = s.channels ∧
    (State.withdrawCut s).faults = s.faults ∧
    (State.withdrawCut s).store = s.store ∧
    (State.withdrawCut s).free = s.free ∧
    (State.withdrawCut s).pending = s.pending ∧
    (State.withdrawCut s).tape = s.tape := by
  unfold State.withdrawCut
  split <;> simp

@[simp] theorem State.abortCycle_frame (s : State) (faulted : Bool) :
    (State.abortCycle s faulted).link = s.link ∧
    (State.abortCycle s faulted).jobs = s.jobs ∧
    (State.abortCycle s faulted).admission = s.admission ∧
    (State.abortCycle s faulted).planner = s.planner ∧
    (State.abortCycle s faulted).bankA = s.bankA ∧
    (State.abortCycle s faulted).bankB = s.bankB ∧
    (State.abortCycle s faulted).gauge = s.gauge ∧
    (State.abortCycle s faulted).infeed = s.infeed ∧
    (State.abortCycle s faulted).jogger = s.jogger ∧
    (State.abortCycle s faulted).arbiter = s.arbiter ∧
    (State.abortCycle s faulted).inputs = s.inputs ∧
    (State.abortCycle s faulted).channels = s.channels ∧
    (State.abortCycle s faulted).faults = s.faults ∧
    (State.abortCycle s faulted).store = s.store ∧
    (State.abortCycle s faulted).free = s.free ∧
    (State.abortCycle s faulted).pending = s.pending ∧
    (State.abortCycle s faulted).tape = s.tape := by
  unfold State.abortCycle
  split <;> simp

@[simp] theorem State.stopCycle_frame (s : State) :
    (State.stopCycle s).link = s.link ∧
    (State.stopCycle s).jobs = s.jobs ∧
    (State.stopCycle s).admission = s.admission ∧
    (State.stopCycle s).planner = s.planner ∧
    (State.stopCycle s).bankA = s.bankA ∧
    (State.stopCycle s).bankB = s.bankB ∧
    (State.stopCycle s).gauge = s.gauge ∧
    (State.stopCycle s).infeed = s.infeed ∧
    (State.stopCycle s).jogger = s.jogger ∧
    (State.stopCycle s).arbiter = s.arbiter ∧
    (State.stopCycle s).inputs = s.inputs ∧
    (State.stopCycle s).channels = s.channels ∧
    (State.stopCycle s).faults = s.faults ∧
    (State.stopCycle s).store = s.store ∧
    (State.stopCycle s).free = s.free ∧
    (State.stopCycle s).pending = s.pending ∧
    (State.stopCycle s).tape = s.tape := by
  generalize h : State.stopCycle s = r
  unfold State.stopCycle at h
  (repeat' split at h) <;> subst h <;> simp

@[simp] theorem State.endCycle_frame (s : State) :
    (State.endCycle s).jobs = s.jobs ∧
    (State.endCycle s).admission = s.admission ∧
    (State.endCycle s).planner = s.planner ∧
    (State.endCycle s).bankA = s.bankA ∧
    (State.endCycle s).bankB = s.bankB ∧
    (State.endCycle s).gauge = s.gauge ∧
    (State.endCycle s).infeed = s.infeed ∧
    (State.endCycle s).jogger = s.jogger ∧
    (State.endCycle s).inputs = s.inputs ∧
    (State.endCycle s).channels = s.channels ∧
    (State.endCycle s).faults = s.faults ∧
    (State.endCycle s).store = s.store ∧
    (State.endCycle s).free = s.free ∧
    (State.endCycle s).pending = s.pending ∧
    (State.endCycle s).tape = s.tape := by
  unfold State.endCycle
  split <;> simp

theorem cycleUnstop_frame (s : State) (t : State) (h : cycleUnstop s = some t) :
    t.jobs = s.jobs ∧ t.admission = s.admission ∧ t.planner = s.planner ∧ t.bankA = s.bankA ∧ t.bankB = s.bankB ∧ t.gauge = s.gauge ∧ t.infeed = s.infeed ∧ t.jogger = s.jogger ∧ t.inputs = s.inputs ∧ t.channels = s.channels ∧ t.faults = s.faults ∧ t.store = s.store ∧ t.free = s.free ∧ t.pending = s.pending ∧ t.tape = s.tape := by
  unfold cycleUnstop at h
  (repeat' split at h) <;> cases h <;> simp

@[simp] theorem State.backToPrepare_frame (s : State) :
    (State.backToPrepare s).link = s.link ∧
    (State.backToPrepare s).jobs = s.jobs ∧
    (State.backToPrepare s).admission = s.admission ∧
    (State.backToPrepare s).planner = s.planner ∧
    (State.backToPrepare s).bankA = s.bankA ∧
    (State.backToPrepare s).bankB = s.bankB ∧
    (State.backToPrepare s).gauge = s.gauge ∧
    (State.backToPrepare s).infeed = s.infeed ∧
    (State.backToPrepare s).jogger = s.jogger ∧
    (State.backToPrepare s).inputs = s.inputs ∧
    (State.backToPrepare s).channels = s.channels ∧
    (State.backToPrepare s).faults = s.faults ∧
    (State.backToPrepare s).store = s.store ∧
    (State.backToPrepare s).free = s.free ∧
    (State.backToPrepare s).pending = s.pending ∧
    (State.backToPrepare s).tape = s.tape := by
  unfold State.backToPrepare
  split <;> simp

theorem startRevoked_frame (s : State) (t : State) (h : startRevoked s = some t) :
    t.link = s.link ∧ t.jobs = s.jobs ∧ t.admission = s.admission ∧ t.planner = s.planner ∧ t.bankA = s.bankA ∧ t.bankB = s.bankB ∧ t.gauge = s.gauge ∧ t.infeed = s.infeed ∧ t.jogger = s.jogger ∧ t.inputs = s.inputs ∧ t.channels = s.channels ∧ t.faults = s.faults ∧ t.store = s.store ∧ t.free = s.free ∧ t.pending = s.pending ∧ t.tape = s.tape := by
  unfold startRevoked at h
  split at h
  · cases h; simp
  · cases h

@[simp] theorem State.grantCut_frame (s : State) :
    (State.grantCut s).jobs = s.jobs ∧
    (State.grantCut s).admission = s.admission ∧
    (State.grantCut s).planner = s.planner ∧
    (State.grantCut s).bankA = s.bankA ∧
    (State.grantCut s).bankB = s.bankB ∧
    (State.grantCut s).gauge = s.gauge ∧
    (State.grantCut s).infeed = s.infeed ∧
    (State.grantCut s).jogger = s.jogger ∧
    (State.grantCut s).inputs = s.inputs ∧
    (State.grantCut s).channels = s.channels ∧
    (State.grantCut s).faults = s.faults ∧
    (State.grantCut s).store = s.store ∧
    (State.grantCut s).free = s.free ∧
    (State.grantCut s).pending = s.pending ∧
    (State.grantCut s).tape = s.tape := by
  generalize h : State.grantCut s = r
  simp only [State.grantCut] at h
  (repeat' split at h) <;> subst h <;> simp

end Sys2Proof.Machine
end

