-- ==== Sys2Proof/Laws/JoggerOps.lean ====
section
/-! SUPPORT. What each shared operation of the Jogger leaves alone: one lemma for each operation. -/
namespace Sys2Proof.Machine

@[simp] theorem State.startJog_frame (s : State) (intensity : Nat) (rejogUsed : Bool) :
    (State.startJog s intensity rejogUsed).link = s.link ∧
    (State.startJog s intensity rejogUsed).jobs = s.jobs ∧
    (State.startJog s intensity rejogUsed).admission = s.admission ∧
    (State.startJog s intensity rejogUsed).planner = s.planner ∧
    (State.startJog s intensity rejogUsed).bankA = s.bankA ∧
    (State.startJog s intensity rejogUsed).bankB = s.bankB ∧
    (State.startJog s intensity rejogUsed).runner = s.runner ∧
    (State.startJog s intensity rejogUsed).gauge = s.gauge ∧
    (State.startJog s intensity rejogUsed).cycle = s.cycle ∧
    (State.startJog s intensity rejogUsed).infeed = s.infeed ∧
    (State.startJog s intensity rejogUsed).arbiter = s.arbiter ∧
    (State.startJog s intensity rejogUsed).inputs = s.inputs ∧
    (State.startJog s intensity rejogUsed).channels = s.channels ∧
    (State.startJog s intensity rejogUsed).faults = s.faults ∧
    (State.startJog s intensity rejogUsed).store = s.store ∧
    (State.startJog s intensity rejogUsed).free = s.free ∧
    (State.startJog s intensity rejogUsed).pending = s.pending ∧
    (State.startJog s intensity rejogUsed).tape = s.tape := by
  simp [State.startJog]

@[simp] theorem State.startBaseJog_frame (s : State) :
    (State.startBaseJog s).link = s.link ∧
    (State.startBaseJog s).jobs = s.jobs ∧
    (State.startBaseJog s).admission = s.admission ∧
    (State.startBaseJog s).planner = s.planner ∧
    (State.startBaseJog s).bankA = s.bankA ∧
    (State.startBaseJog s).bankB = s.bankB ∧
    (State.startBaseJog s).runner = s.runner ∧
    (State.startBaseJog s).gauge = s.gauge ∧
    (State.startBaseJog s).cycle = s.cycle ∧
    (State.startBaseJog s).infeed = s.infeed ∧
    (State.startBaseJog s).arbiter = s.arbiter ∧
    (State.startBaseJog s).inputs = s.inputs ∧
    (State.startBaseJog s).channels = s.channels ∧
    (State.startBaseJog s).faults = s.faults ∧
    (State.startBaseJog s).store = s.store ∧
    (State.startBaseJog s).free = s.free ∧
    (State.startBaseJog s).pending = s.pending ∧
    (State.startBaseJog s).tape = s.tape := by
  simp [State.startBaseJog]

theorem jogRestart_frame (s : State) (t : State) (h : jogRestart s = some t) :
    t.link = s.link ∧ t.jobs = s.jobs ∧ t.admission = s.admission ∧ t.planner = s.planner ∧ t.bankA = s.bankA ∧ t.bankB = s.bankB ∧ t.runner = s.runner ∧ t.gauge = s.gauge ∧ t.cycle = s.cycle ∧ t.infeed = s.infeed ∧ t.arbiter = s.arbiter ∧ t.inputs = s.inputs ∧ t.channels = s.channels ∧ t.faults = s.faults ∧ t.store = s.store ∧ t.free = s.free ∧ t.pending = s.pending ∧ t.tape = s.tape := by
  unfold jogRestart at h
  split at h
  · cases h; simp
  · cases h

theorem jogRetry_frame (s : State) (t : State) (h : jogRetry s = some t) :
    t.link = s.link ∧ t.jobs = s.jobs ∧ t.admission = s.admission ∧ t.planner = s.planner ∧ t.bankA = s.bankA ∧ t.bankB = s.bankB ∧ t.runner = s.runner ∧ t.gauge = s.gauge ∧ t.cycle = s.cycle ∧ t.infeed = s.infeed ∧ t.arbiter = s.arbiter ∧ t.inputs = s.inputs ∧ t.channels = s.channels ∧ t.faults = s.faults ∧ t.store = s.store ∧ t.free = s.free ∧ t.pending = s.pending ∧ t.tape = s.tape := by
  unfold jogRetry at h
  split at h
  · cases h; simp
  · cases h

@[simp] theorem State.completeTransfer_frame (s : State) (l : LiftRec) :
    (State.completeTransfer s l).jobs = s.jobs ∧
    (State.completeTransfer s l).admission = s.admission ∧
    (State.completeTransfer s l).planner = s.planner ∧
    (State.completeTransfer s l).gauge = s.gauge ∧
    (State.completeTransfer s l).cycle = s.cycle ∧
    (State.completeTransfer s l).infeed = s.infeed ∧
    (State.completeTransfer s l).arbiter = s.arbiter ∧
    (State.completeTransfer s l).inputs = s.inputs ∧
    (State.completeTransfer s l).channels = s.channels ∧
    (State.completeTransfer s l).faults = s.faults ∧
    (State.completeTransfer s l).store = s.store ∧
    (State.completeTransfer s l).free = s.free ∧
    (State.completeTransfer s l).pending = s.pending ∧
    (State.completeTransfer s l).tape = s.tape := by
  simp [State.completeTransfer]

@[simp] theorem State.beginTransfer_frame (s : State) (l : LiftRec) :
    (State.beginTransfer s l).jobs = s.jobs ∧
    (State.beginTransfer s l).admission = s.admission ∧
    (State.beginTransfer s l).planner = s.planner ∧
    (State.beginTransfer s l).gauge = s.gauge ∧
    (State.beginTransfer s l).cycle = s.cycle ∧
    (State.beginTransfer s l).infeed = s.infeed ∧
    (State.beginTransfer s l).arbiter = s.arbiter ∧
    (State.beginTransfer s l).inputs = s.inputs ∧
    (State.beginTransfer s l).channels = s.channels ∧
    (State.beginTransfer s l).faults = s.faults ∧
    (State.beginTransfer s l).store = s.store ∧
    (State.beginTransfer s l).free = s.free ∧
    (State.beginTransfer s l).pending = s.pending ∧
    (State.beginTransfer s l).tape = s.tape := by
  generalize h : State.beginTransfer s l = r
  simp only [State.beginTransfer] at h
  (repeat' split at h) <;> subst h <;> simp

theorem transferBegin_frame (s : State) (t : State) (h : transferBegin s = some t) :
    t.jobs = s.jobs ∧ t.admission = s.admission ∧ t.planner = s.planner ∧ t.gauge = s.gauge ∧ t.cycle = s.cycle ∧ t.infeed = s.infeed ∧ t.arbiter = s.arbiter ∧ t.inputs = s.inputs ∧ t.channels = s.channels ∧ t.faults = s.faults ∧ t.store = s.store ∧ t.free = s.free ∧ t.pending = s.pending ∧ t.tape = s.tape := by
  unfold transferBegin at h
  split at h
  · obtain ⟨x, -, rfl⟩ := Option.map_eq_some_iff.mp h
    simp
  · cases h

theorem transferAbandoned_frame (s : State) (t : State) (h : transferAbandoned s = some t) :
    t.link = s.link ∧ t.jobs = s.jobs ∧ t.admission = s.admission ∧ t.planner = s.planner ∧ t.bankA = s.bankA ∧ t.bankB = s.bankB ∧ t.gauge = s.gauge ∧ t.cycle = s.cycle ∧ t.infeed = s.infeed ∧ t.arbiter = s.arbiter ∧ t.inputs = s.inputs ∧ t.channels = s.channels ∧ t.faults = s.faults ∧ t.store = s.store ∧ t.free = s.free ∧ t.pending = s.pending ∧ t.tape = s.tape := by
  unfold transferAbandoned at h
  dsimp only at h
  (repeat' split at h) <;> (try cases h) <;> simp_all

@[simp] theorem State.clearJogger_frame (s : State) :
    (State.clearJogger s).jobs = s.jobs ∧
    (State.clearJogger s).admission = s.admission ∧
    (State.clearJogger s).planner = s.planner ∧
    (State.clearJogger s).bankA = s.bankA ∧
    (State.clearJogger s).bankB = s.bankB ∧
    (State.clearJogger s).runner = s.runner ∧
    (State.clearJogger s).gauge = s.gauge ∧
    (State.clearJogger s).cycle = s.cycle ∧
    (State.clearJogger s).infeed = s.infeed ∧
    (State.clearJogger s).arbiter = s.arbiter ∧
    (State.clearJogger s).inputs = s.inputs ∧
    (State.clearJogger s).channels = s.channels ∧
    (State.clearJogger s).faults = s.faults ∧
    (State.clearJogger s).store = s.store ∧
    (State.clearJogger s).free = s.free ∧
    (State.clearJogger s).pending = s.pending ∧
    (State.clearJogger s).tape = s.tape := by
  simp [State.clearJogger]

end Sys2Proof.Machine
end

