-- ==== Sys2Proof/Laws/InfeedOps.lean ====
section
/-! SUPPORT. What each shared operation of the Infeed leaves alone: one lemma for each operation. -/
namespace Sys2Proof.Machine

theorem raiseTurn_frame (s : State) (t : State) (h : raiseTurn s = some t) :
    t.link = s.link ∧ t.jobs = s.jobs ∧ t.admission = s.admission ∧ t.planner = s.planner ∧ t.bankA = s.bankA ∧ t.bankB = s.bankB ∧ t.runner = s.runner ∧ t.gauge = s.gauge ∧ t.cycle = s.cycle ∧ t.infeed = s.infeed ∧ t.jogger = s.jogger ∧ t.inputs = s.inputs ∧ t.channels = s.channels ∧ t.faults = s.faults ∧ t.store = s.store ∧ t.free = s.free ∧ t.pending = s.pending ∧ t.tape = s.tape := by
  unfold raiseTurn at h
  split at h
  · cases h; simp
  · cases h

theorem raiseLift_frame (s : State) (t : State) (h : raiseLift s = some t) :
    t.link = s.link ∧ t.jobs = s.jobs ∧ t.admission = s.admission ∧ t.planner = s.planner ∧ t.bankA = s.bankA ∧ t.bankB = s.bankB ∧ t.runner = s.runner ∧ t.gauge = s.gauge ∧ t.cycle = s.cycle ∧ t.infeed = s.infeed ∧ t.jogger = s.jogger ∧ t.inputs = s.inputs ∧ t.channels = s.channels ∧ t.faults = s.faults ∧ t.store = s.store ∧ t.free = s.free ∧ t.pending = s.pending ∧ t.tape = s.tape := by
  unfold raiseLift at h
  split at h
  · cases h; simp
  · cases h

@[simp] theorem State.grantTurn_frame (s : State) :
    (State.grantTurn s).link = s.link ∧
    (State.grantTurn s).jobs = s.jobs ∧
    (State.grantTurn s).admission = s.admission ∧
    (State.grantTurn s).planner = s.planner ∧
    (State.grantTurn s).bankA = s.bankA ∧
    (State.grantTurn s).bankB = s.bankB ∧
    (State.grantTurn s).runner = s.runner ∧
    (State.grantTurn s).gauge = s.gauge ∧
    (State.grantTurn s).cycle = s.cycle ∧
    (State.grantTurn s).jogger = s.jogger ∧
    (State.grantTurn s).arbiter = s.arbiter ∧
    (State.grantTurn s).inputs = s.inputs ∧
    (State.grantTurn s).channels = s.channels ∧
    (State.grantTurn s).faults = s.faults ∧
    (State.grantTurn s).store = s.store ∧
    (State.grantTurn s).free = s.free ∧
    (State.grantTurn s).pending = s.pending ∧
    (State.grantTurn s).tape = s.tape := by
  simp [State.grantTurn]

@[simp] theorem State.grantLift_frame (s : State) :
    (State.grantLift s).link = s.link ∧
    (State.grantLift s).jobs = s.jobs ∧
    (State.grantLift s).admission = s.admission ∧
    (State.grantLift s).planner = s.planner ∧
    (State.grantLift s).bankA = s.bankA ∧
    (State.grantLift s).bankB = s.bankB ∧
    (State.grantLift s).runner = s.runner ∧
    (State.grantLift s).gauge = s.gauge ∧
    (State.grantLift s).cycle = s.cycle ∧
    (State.grantLift s).arbiter = s.arbiter ∧
    (State.grantLift s).inputs = s.inputs ∧
    (State.grantLift s).channels = s.channels ∧
    (State.grantLift s).faults = s.faults ∧
    (State.grantLift s).store = s.store ∧
    (State.grantLift s).free = s.free ∧
    (State.grantLift s).pending = s.pending ∧
    (State.grantLift s).tape = s.tape := by
  generalize h : State.grantLift s = r
  simp only [State.grantLift] at h
  (repeat' split at h) <;> subst h <;> simp

@[simp] theorem State.interruptInfeed_frame (s : State) :
    (State.interruptInfeed s).link = s.link ∧
    (State.interruptInfeed s).jobs = s.jobs ∧
    (State.interruptInfeed s).admission = s.admission ∧
    (State.interruptInfeed s).planner = s.planner ∧
    (State.interruptInfeed s).bankA = s.bankA ∧
    (State.interruptInfeed s).bankB = s.bankB ∧
    (State.interruptInfeed s).runner = s.runner ∧
    (State.interruptInfeed s).gauge = s.gauge ∧
    (State.interruptInfeed s).cycle = s.cycle ∧
    (State.interruptInfeed s).jogger = s.jogger ∧
    (State.interruptInfeed s).inputs = s.inputs ∧
    (State.interruptInfeed s).channels = s.channels ∧
    (State.interruptInfeed s).faults = s.faults ∧
    (State.interruptInfeed s).store = s.store ∧
    (State.interruptInfeed s).free = s.free ∧
    (State.interruptInfeed s).pending = s.pending ∧
    (State.interruptInfeed s).tape = s.tape := by
  simp [State.interruptInfeed]

theorem emptyOccupied_frame (s : State) (t : State) (h : emptyOccupied s = some t) :
    t.jobs = s.jobs ∧ t.admission = s.admission ∧ t.planner = s.planner ∧ t.bankA = s.bankA ∧ t.bankB = s.bankB ∧ t.runner = s.runner ∧ t.gauge = s.gauge ∧ t.cycle = s.cycle ∧ t.jogger = s.jogger ∧ t.arbiter = s.arbiter ∧ t.inputs = s.inputs ∧ t.channels = s.channels ∧ t.faults = s.faults ∧ t.store = s.store ∧ t.free = s.free ∧ t.pending = s.pending ∧ t.tape = s.tape := by
  unfold emptyOccupied at h
  split at h
  · cases h; simp
  · cases h

theorem rejectedOver_frame (s : State) (t : State) (h : rejectedOver s = some t) :
    t.jobs = s.jobs ∧ t.admission = s.admission ∧ t.planner = s.planner ∧ t.bankA = s.bankA ∧ t.bankB = s.bankB ∧ t.runner = s.runner ∧ t.gauge = s.gauge ∧ t.cycle = s.cycle ∧ t.jogger = s.jogger ∧ t.arbiter = s.arbiter ∧ t.inputs = s.inputs ∧ t.channels = s.channels ∧ t.faults = s.faults ∧ t.store = s.store ∧ t.free = s.free ∧ t.pending = s.pending ∧ t.tape = s.tape := by
  unfold rejectedOver at h
  dsimp only at h
  (repeat' split at h) <;> (try cases h) <;> simp_all

@[simp] theorem State.takePile_frame (s : State) (e : JobEntry) (height : Nat) :
    (State.takePile s e height).admission = s.admission ∧
    (State.takePile s e height).planner = s.planner ∧
    (State.takePile s e height).bankA = s.bankA ∧
    (State.takePile s e height).bankB = s.bankB ∧
    (State.takePile s e height).runner = s.runner ∧
    (State.takePile s e height).gauge = s.gauge ∧
    (State.takePile s e height).cycle = s.cycle ∧
    (State.takePile s e height).jogger = s.jogger ∧
    (State.takePile s e height).arbiter = s.arbiter ∧
    (State.takePile s e height).inputs = s.inputs ∧
    (State.takePile s e height).channels = s.channels ∧
    (State.takePile s e height).faults = s.faults ∧
    (State.takePile s e height).store = s.store ∧
    (State.takePile s e height).free = s.free ∧
    (State.takePile s e height).pending = s.pending ∧
    (State.takePile s e height).tape = s.tape := by
  simp [State.takePile]

theorem turnerCleared_frame (s : State) (t : State) (h : turnerCleared s = some t) :
    t.link = s.link ∧ t.jobs = s.jobs ∧ t.admission = s.admission ∧ t.planner = s.planner ∧ t.bankA = s.bankA ∧ t.bankB = s.bankB ∧ t.runner = s.runner ∧ t.gauge = s.gauge ∧ t.cycle = s.cycle ∧ t.jogger = s.jogger ∧ t.arbiter = s.arbiter ∧ t.inputs = s.inputs ∧ t.channels = s.channels ∧ t.faults = s.faults ∧ t.store = s.store ∧ t.free = s.free ∧ t.pending = s.pending ∧ t.tape = s.tape := by
  unfold turnerCleared at h
  split at h
  · cases h; simp
  · cases h

@[simp] theorem State.exhaust_frame (s : State) (p : PileRec) :
    (State.exhaust s p).admission = s.admission ∧
    (State.exhaust s p).planner = s.planner ∧
    (State.exhaust s p).runner = s.runner ∧
    (State.exhaust s p).gauge = s.gauge ∧
    (State.exhaust s p).cycle = s.cycle ∧
    (State.exhaust s p).jogger = s.jogger ∧
    (State.exhaust s p).arbiter = s.arbiter ∧
    (State.exhaust s p).inputs = s.inputs ∧
    (State.exhaust s p).channels = s.channels ∧
    (State.exhaust s p).faults = s.faults ∧
    (State.exhaust s p).store = s.store ∧
    (State.exhaust s p).free = s.free ∧
    (State.exhaust s p).pending = s.pending ∧
    (State.exhaust s p).tape = s.tape := by
  simp [State.exhaust]

@[simp] theorem State.storePile_frame (s : State) (p : PileRec) :
    (State.storePile s p).admission = s.admission ∧
    (State.storePile s p).planner = s.planner ∧
    (State.storePile s p).runner = s.runner ∧
    (State.storePile s p).gauge = s.gauge ∧
    (State.storePile s p).cycle = s.cycle ∧
    (State.storePile s p).jogger = s.jogger ∧
    (State.storePile s p).arbiter = s.arbiter ∧
    (State.storePile s p).inputs = s.inputs ∧
    (State.storePile s p).channels = s.channels ∧
    (State.storePile s p).faults = s.faults ∧
    (State.storePile s p).store = s.store ∧
    (State.storePile s p).free = s.free ∧
    (State.storePile s p).pending = s.pending ∧
    (State.storePile s p).tape = s.tape := by
  unfold State.storePile
  split <;> simp

theorem liftStart_frame (s : State) (t : State) (h : liftStart s = some t) :
    t.link = s.link ∧ t.jobs = s.jobs ∧ t.admission = s.admission ∧ t.planner = s.planner ∧ t.bankA = s.bankA ∧ t.bankB = s.bankB ∧ t.runner = s.runner ∧ t.gauge = s.gauge ∧ t.cycle = s.cycle ∧ t.jogger = s.jogger ∧ t.arbiter = s.arbiter ∧ t.inputs = s.inputs ∧ t.channels = s.channels ∧ t.faults = s.faults ∧ t.store = s.store ∧ t.free = s.free ∧ t.pending = s.pending ∧ t.tape = s.tape := by
  unfold liftStart at h
  split at h
  · cases h; simp
  · cases h

theorem depositStart_frame (s : State) (t : State) (h : depositStart s = some t) :
    t.link = s.link ∧ t.jobs = s.jobs ∧ t.admission = s.admission ∧ t.planner = s.planner ∧ t.bankA = s.bankA ∧ t.bankB = s.bankB ∧ t.runner = s.runner ∧ t.gauge = s.gauge ∧ t.cycle = s.cycle ∧ t.jogger = s.jogger ∧ t.arbiter = s.arbiter ∧ t.inputs = s.inputs ∧ t.channels = s.channels ∧ t.faults = s.faults ∧ t.store = s.store ∧ t.free = s.free ∧ t.pending = s.pending ∧ t.tape = s.tape := by
  unfold depositStart at h
  split at h
  · cases h; simp
  · cases h

theorem liftClearing_frame (s : State) (t : State) (h : liftClearing s = some t) :
    t.link = s.link ∧ t.jobs = s.jobs ∧ t.admission = s.admission ∧ t.planner = s.planner ∧ t.bankA = s.bankA ∧ t.bankB = s.bankB ∧ t.runner = s.runner ∧ t.gauge = s.gauge ∧ t.cycle = s.cycle ∧ t.jogger = s.jogger ∧ t.arbiter = s.arbiter ∧ t.inputs = s.inputs ∧ t.channels = s.channels ∧ t.faults = s.faults ∧ t.store = s.store ∧ t.free = s.free ∧ t.pending = s.pending ∧ t.tape = s.tape := by
  unfold liftClearing at h
  split at h
  · cases h; simp
  · cases h

@[simp] theorem State.countPick_frame (s : State) (p : PileRec) (reading : Nat) :
    (State.countPick s p reading).admission = s.admission ∧
    (State.countPick s p reading).planner = s.planner ∧
    (State.countPick s p reading).runner = s.runner ∧
    (State.countPick s p reading).gauge = s.gauge ∧
    (State.countPick s p reading).cycle = s.cycle ∧
    (State.countPick s p reading).jogger = s.jogger ∧
    (State.countPick s p reading).arbiter = s.arbiter ∧
    (State.countPick s p reading).inputs = s.inputs ∧
    (State.countPick s p reading).channels = s.channels ∧
    (State.countPick s p reading).faults = s.faults ∧
    (State.countPick s p reading).store = s.store ∧
    (State.countPick s p reading).free = s.free ∧
    (State.countPick s p reading).pending = s.pending ∧
    (State.countPick s p reading).tape = s.tape := by
  simp [State.countPick]

@[simp] theorem State.handDeposit_frame (s : State) :
    (State.handDeposit s).link = s.link ∧
    (State.handDeposit s).jobs = s.jobs ∧
    (State.handDeposit s).admission = s.admission ∧
    (State.handDeposit s).planner = s.planner ∧
    (State.handDeposit s).bankA = s.bankA ∧
    (State.handDeposit s).bankB = s.bankB ∧
    (State.handDeposit s).runner = s.runner ∧
    (State.handDeposit s).gauge = s.gauge ∧
    (State.handDeposit s).cycle = s.cycle ∧
    (State.handDeposit s).arbiter = s.arbiter ∧
    (State.handDeposit s).inputs = s.inputs ∧
    (State.handDeposit s).channels = s.channels ∧
    (State.handDeposit s).faults = s.faults ∧
    (State.handDeposit s).store = s.store ∧
    (State.handDeposit s).free = s.free ∧
    (State.handDeposit s).pending = s.pending ∧
    (State.handDeposit s).tape = s.tape := by
  generalize h : State.handDeposit s = r
  simp only [State.handDeposit] at h
  (repeat' split at h) <;> subst h <;> simp

@[simp] theorem State.dropPick_frame (s : State) :
    (State.dropPick s).link = s.link ∧
    (State.dropPick s).jobs = s.jobs ∧
    (State.dropPick s).admission = s.admission ∧
    (State.dropPick s).planner = s.planner ∧
    (State.dropPick s).bankA = s.bankA ∧
    (State.dropPick s).bankB = s.bankB ∧
    (State.dropPick s).runner = s.runner ∧
    (State.dropPick s).gauge = s.gauge ∧
    (State.dropPick s).cycle = s.cycle ∧
    (State.dropPick s).jogger = s.jogger ∧
    (State.dropPick s).inputs = s.inputs ∧
    (State.dropPick s).channels = s.channels ∧
    (State.dropPick s).faults = s.faults ∧
    (State.dropPick s).store = s.store ∧
    (State.dropPick s).free = s.free ∧
    (State.dropPick s).pending = s.pending ∧
    (State.dropPick s).tape = s.tape := by
  simp [State.dropPick]

@[simp] theorem State.clearTurner_frame (s : State) :
    (State.clearTurner s).link = s.link ∧
    (State.clearTurner s).jobs = s.jobs ∧
    (State.clearTurner s).admission = s.admission ∧
    (State.clearTurner s).planner = s.planner ∧
    (State.clearTurner s).bankA = s.bankA ∧
    (State.clearTurner s).bankB = s.bankB ∧
    (State.clearTurner s).runner = s.runner ∧
    (State.clearTurner s).gauge = s.gauge ∧
    (State.clearTurner s).cycle = s.cycle ∧
    (State.clearTurner s).jogger = s.jogger ∧
    (State.clearTurner s).inputs = s.inputs ∧
    (State.clearTurner s).channels = s.channels ∧
    (State.clearTurner s).faults = s.faults ∧
    (State.clearTurner s).store = s.store ∧
    (State.clearTurner s).free = s.free ∧
    (State.clearTurner s).pending = s.pending ∧
    (State.clearTurner s).tape = s.tape := by
  simp [State.clearTurner]

@[simp] theorem State.clearLift_frame (s : State) :
    (State.clearLift s).link = s.link ∧
    (State.clearLift s).jobs = s.jobs ∧
    (State.clearLift s).admission = s.admission ∧
    (State.clearLift s).planner = s.planner ∧
    (State.clearLift s).bankA = s.bankA ∧
    (State.clearLift s).bankB = s.bankB ∧
    (State.clearLift s).runner = s.runner ∧
    (State.clearLift s).gauge = s.gauge ∧
    (State.clearLift s).cycle = s.cycle ∧
    (State.clearLift s).jogger = s.jogger ∧
    (State.clearLift s).inputs = s.inputs ∧
    (State.clearLift s).channels = s.channels ∧
    (State.clearLift s).faults = s.faults ∧
    (State.clearLift s).store = s.store ∧
    (State.clearLift s).free = s.free ∧
    (State.clearLift s).pending = s.pending ∧
    (State.clearLift s).tape = s.tape := by
  simp [State.clearLift]

@[simp] theorem State.clearInfeed_frame (s : State) (n : Nat) :
    (State.clearInfeed s n).jobs = s.jobs ∧
    (State.clearInfeed s n).admission = s.admission ∧
    (State.clearInfeed s n).planner = s.planner ∧
    (State.clearInfeed s n).bankA = s.bankA ∧
    (State.clearInfeed s n).bankB = s.bankB ∧
    (State.clearInfeed s n).runner = s.runner ∧
    (State.clearInfeed s n).gauge = s.gauge ∧
    (State.clearInfeed s n).cycle = s.cycle ∧
    (State.clearInfeed s n).jogger = s.jogger ∧
    (State.clearInfeed s n).inputs = s.inputs ∧
    (State.clearInfeed s n).channels = s.channels ∧
    (State.clearInfeed s n).faults = s.faults ∧
    (State.clearInfeed s n).store = s.store ∧
    (State.clearInfeed s n).free = s.free ∧
    (State.clearInfeed s n).pending = s.pending ∧
    (State.clearInfeed s n).tape = s.tape := by
  generalize h : State.clearInfeed s n = r
  simp only [State.clearInfeed] at h
  (repeat' split at h) <;> subst h <;> simp

end Sys2Proof.Machine
end

