-- ==== Sys2Proof/Laws/FaultOps.lean ====
section
/-! SUPPORT. What each shared operation of the Fault Register leaves alone: one lemma for each operation. -/
namespace Sys2Proof.Machine

@[simp] theorem State.changeFaults_frame (s : State) (f : FaultSet) :
    (State.changeFaults s f).jobs = s.jobs ∧
    (State.changeFaults s f).admission = s.admission ∧
    (State.changeFaults s f).planner = s.planner ∧
    (State.changeFaults s f).bankA = s.bankA ∧
    (State.changeFaults s f).bankB = s.bankB ∧
    (State.changeFaults s f).runner = s.runner ∧
    (State.changeFaults s f).gauge = s.gauge ∧
    (State.changeFaults s f).cycle = s.cycle ∧
    (State.changeFaults s f).infeed = s.infeed ∧
    (State.changeFaults s f).jogger = s.jogger ∧
    (State.changeFaults s f).arbiter = s.arbiter ∧
    (State.changeFaults s f).inputs = s.inputs ∧
    (State.changeFaults s f).channels = s.channels ∧
    (State.changeFaults s f).store = s.store ∧
    (State.changeFaults s f).free = s.free ∧
    (State.changeFaults s f).pending = s.pending ∧
    (State.changeFaults s f).tape = s.tape := by
  simp [State.changeFaults]

@[simp] theorem State.stopBegin_frame (s : State) :
    (State.stopBegin s).jobs = s.jobs ∧
    (State.stopBegin s).admission = s.admission ∧
    (State.stopBegin s).planner = s.planner ∧
    (State.stopBegin s).bankA = s.bankA ∧
    (State.stopBegin s).bankB = s.bankB ∧
    (State.stopBegin s).inputs = s.inputs ∧
    (State.stopBegin s).channels = s.channels ∧
    (State.stopBegin s).faults = s.faults ∧
    (State.stopBegin s).store = s.store ∧
    (State.stopBegin s).free = s.free ∧
    (State.stopBegin s).pending = s.pending ∧
    (State.stopBegin s).tape = s.tape := by
  simp [State.stopBegin]

@[simp] theorem State.guillotineBegin_frame (s : State) :
    (State.guillotineBegin s).jobs = s.jobs ∧
    (State.guillotineBegin s).admission = s.admission ∧
    (State.guillotineBegin s).planner = s.planner ∧
    (State.guillotineBegin s).bankA = s.bankA ∧
    (State.guillotineBegin s).bankB = s.bankB ∧
    (State.guillotineBegin s).infeed = s.infeed ∧
    (State.guillotineBegin s).jogger = s.jogger ∧
    (State.guillotineBegin s).inputs = s.inputs ∧
    (State.guillotineBegin s).channels = s.channels ∧
    (State.guillotineBegin s).faults = s.faults ∧
    (State.guillotineBegin s).store = s.store ∧
    (State.guillotineBegin s).free = s.free ∧
    (State.guillotineBegin s).pending = s.pending ∧
    (State.guillotineBegin s).tape = s.tape := by
  generalize h : State.guillotineBegin s = r
  simp only [State.guillotineBegin] at h
  (repeat' split at h) <;> subst h <;> simp

@[simp] theorem State.latch_frame (s : State) (k : FaultKind) :
    (State.latch s k).jobs = s.jobs ∧
    (State.latch s k).admission = s.admission ∧
    (State.latch s k).planner = s.planner ∧
    (State.latch s k).bankA = s.bankA ∧
    (State.latch s k).bankB = s.bankB ∧
    (State.latch s k).inputs = s.inputs ∧
    (State.latch s k).channels = s.channels ∧
    (State.latch s k).store = s.store ∧
    (State.latch s k).free = s.free ∧
    (State.latch s k).pending = s.pending ∧
    (State.latch s k).tape = s.tape := by
  generalize h : State.latch s k = r
  unfold State.latch at h
  (repeat' split at h) <;> subst h <;> simp

@[simp] theorem State.axisFault_frame (s : State) (k : FaultKind) (valid : Bool) :
    (State.axisFault s k valid).jobs = s.jobs ∧
    (State.axisFault s k valid).admission = s.admission ∧
    (State.axisFault s k valid).planner = s.planner ∧
    (State.axisFault s k valid).bankA = s.bankA ∧
    (State.axisFault s k valid).bankB = s.bankB ∧
    (State.axisFault s k valid).inputs = s.inputs ∧
    (State.axisFault s k valid).channels = s.channels ∧
    (State.axisFault s k valid).store = s.store ∧
    (State.axisFault s k valid).free = s.free ∧
    (State.axisFault s k valid).pending = s.pending ∧
    (State.axisFault s k valid).tape = s.tape := by
  generalize h : State.axisFault s k valid = r
  simp only [State.axisFault] at h
  (repeat' split at h) <;> subst h <;> simp

@[simp] theorem State.clearFaults_frame (s : State) :
    (State.clearFaults s).jobs = s.jobs ∧
    (State.clearFaults s).admission = s.admission ∧
    (State.clearFaults s).planner = s.planner ∧
    (State.clearFaults s).bankA = s.bankA ∧
    (State.clearFaults s).bankB = s.bankB ∧
    (State.clearFaults s).runner = s.runner ∧
    (State.clearFaults s).gauge = s.gauge ∧
    (State.clearFaults s).cycle = s.cycle ∧
    (State.clearFaults s).infeed = s.infeed ∧
    (State.clearFaults s).jogger = s.jogger ∧
    (State.clearFaults s).arbiter = s.arbiter ∧
    (State.clearFaults s).inputs = s.inputs ∧
    (State.clearFaults s).channels = s.channels ∧
    (State.clearFaults s).store = s.store ∧
    (State.clearFaults s).free = s.free ∧
    (State.clearFaults s).pending = s.pending ∧
    (State.clearFaults s).tape = s.tape := by
  unfold State.clearFaults
  split <;> simp

@[simp] theorem State.resumeTurning_frame (s : State) (p : PileRec) (reading : Nat) :
    (State.resumeTurning s p reading).admission = s.admission ∧
    (State.resumeTurning s p reading).planner = s.planner ∧
    (State.resumeTurning s p reading).inputs = s.inputs ∧
    (State.resumeTurning s p reading).channels = s.channels ∧
    (State.resumeTurning s p reading).store = s.store ∧
    (State.resumeTurning s p reading).free = s.free ∧
    (State.resumeTurning s p reading).pending = s.pending ∧
    (State.resumeTurning s p reading).tape = s.tape := by
  generalize h : State.resumeTurning s p reading = r
  simp only [State.resumeTurning] at h
  (repeat' split at h) <;> subst h <;> simp

@[simp] theorem State.resumeReady_frame (s : State) (p : PileRec) (reading : Nat) :
    (State.resumeReady s p reading).admission = s.admission ∧
    (State.resumeReady s p reading).planner = s.planner ∧
    (State.resumeReady s p reading).inputs = s.inputs ∧
    (State.resumeReady s p reading).channels = s.channels ∧
    (State.resumeReady s p reading).store = s.store ∧
    (State.resumeReady s p reading).free = s.free ∧
    (State.resumeReady s p reading).pending = s.pending ∧
    (State.resumeReady s p reading).tape = s.tape := by
  generalize h : State.resumeReady s p reading = r
  simp only [State.resumeReady] at h
  (repeat' split at h) <;> subst h <;> simp

theorem pileBack_frame (s : State) (t : State) (h : pileBack s = some t) :
    t.admission = s.admission ∧ t.planner = s.planner ∧ t.inputs = s.inputs ∧ t.channels = s.channels ∧ t.store = s.store ∧ t.free = s.free ∧ t.pending = s.pending ∧ t.tape = s.tape := by
  unfold pileBack at h
  dsimp only at h
  (repeat' split at h) <;> (try cases h) <;> simp_all

end Sys2Proof.Machine
end

