-- ==== Sys2Proof/Laws/Ops.lean ====
section
/-! SUPPORT. What the reactions and the settling of the part leave alone, and how a property is carried through them: a
property that every one of the 26 reactions keeps is kept by `State.settle` and `State.finish`. -/
namespace Sys2Proof.Machine

theorem hydGrant_frame (s : State) (t : State) (h : hydGrant s = some t) :
    t.jobs = s.jobs ∧ t.admission = s.admission ∧ t.planner = s.planner ∧ t.bankA = s.bankA ∧ t.bankB = s.bankB ∧ t.gauge = s.gauge ∧ t.inputs = s.inputs ∧ t.channels = s.channels ∧ t.faults = s.faults ∧ t.store = s.store ∧ t.free = s.free ∧ t.pending = s.pending ∧ t.tape = s.tape := by
  unfold hydGrant at h
  (repeat' split at h) <;> simp at h <;> (try subst h) <;> simp

/-- One reaction is one of the list's. -/
theorem react_some (s t : State) (h : react s = some t) : ∃ r ∈ reactions, r s = some t := by
  unfold react at h
  obtain ⟨r, hr, ht⟩ := List.exists_of_findSome?_eq_some h
  exact ⟨r, hr, ht⟩

/-- No reaction is left exactly when every one of the list answers none. -/
theorem react_none (s : State) : react s = none ↔ ∀ r ∈ reactions, r s = none := by
  simp [react]

/-- Where no reaction is left, settling changes nothing. -/
theorem settle_of_quiet (s : State) (h : react s = none) : s.settle = s := by
  simp [State.settle, settleN, h]

/-- A property that every reaction keeps is kept by any number of them. -/
theorem settleN_keeps (P : State → Prop) (keeps : ∀ r ∈ reactions, ∀ s t, P s → r s = some t → P t) (n : Nat) :
    ∀ s, P s → P (settleN n s) := by
  induction n with
  | zero => intro s h; exact h
  | succ k ih =>
    intro s h
    unfold settleN
    split
    · next t ht =>
      obtain ⟨r, hr, hs⟩ := react_some s t ht
      exact ih t (keeps r hr s t h hs)
    · exact h

/-- A property that every reaction keeps is kept by settling. -/
theorem settle_keeps (P : State → Prop) (keeps : ∀ r ∈ reactions, ∀ s t, P s → r s = some t → P t) (s : State)
    (h : P s) : P s.settle := settleN_keeps P keeps 64 s h

/-- A property that every reaction and the transmitter's choice keep is kept by the end of a command. -/
theorem finish_keeps (P : State → Prop) (keeps : ∀ r ∈ reactions, ∀ s t, P s → r s = some t → P t)
    (sends : ∀ s, P s → P s.transmit) (s : State) (h : P s) : P s.finish :=
  sends _ (settle_keeps P keeps s h)

/-- The fields that no reaction changes. -/
theorem react_frame (s t : State) (h : react s = some t) :
    t.admission = s.admission ∧
    t.inputs = s.inputs ∧
    t.channels = s.channels ∧
    t.store = s.store ∧
    t.free = s.free ∧
    t.pending = s.pending ∧
    t.tape = s.tape := by
  obtain ⟨r, hr, ht⟩ := react_some s t h
  simp only [reactions, List.mem_cons, List.not_mem_nil, or_false] at hr
  rcases hr with rfl | rfl | rfl | rfl | rfl | rfl | rfl | rfl | rfl | rfl | rfl | rfl | rfl | rfl | rfl | rfl | rfl | rfl | rfl | rfl | rfl | rfl | rfl | rfl | rfl | rfl
  · simp [hydGrant_frame s t ht]
  · simp [axisUnfault_frame s t ht]
  · simp [cycleUnstop_frame s t ht]
  · simp [startRevoked_frame s t ht]
  · simp [jogRestart_frame s t ht]
  · simp [jogRetry_frame s t ht]
  · simp [transferAbandoned_frame s t ht]
  · simp [pileBack_frame s t ht]
  · simp [rejectedOver_frame s t ht]
  · simp [turnerCleared_frame s t ht]
  · simp [emptyOccupied_frame s t ht]
  · simp [prepareLeave_frame s t ht]
  · simp [takeawayEnd_frame s t ht]
  · simp [takeEnd_frame s t ht]
  · simp [liftEndLeave_frame s t ht]
  · simp [transferBegin_frame s t ht]
  · simp [askStep_frame s t ht]
  · simp [askHandover_frame s t ht]
  · simp [displacement_frame s t ht]
  · simp [planStart_frame s t ht]
  · simp [turnerCall_frame s t ht]
  · simp [liftClearing_frame s t ht]
  · simp [liftStart_frame s t ht]
  · simp [depositStart_frame s t ht]
  · simp [raiseTurn_frame s t ht]
  · simp [raiseLift_frame s t ht]

/-- The fields that any number of reactions leaves alone. -/
theorem settleN_frame (n : Nat) (s : State) :
    (settleN n s).admission = s.admission ∧
    (settleN n s).inputs = s.inputs ∧
    (settleN n s).channels = s.channels ∧
    (settleN n s).store = s.store ∧
    (settleN n s).free = s.free ∧
    (settleN n s).pending = s.pending ∧
    (settleN n s).tape = s.tape := by
  induction n generalizing s with
  | zero => simp [settleN]
  | succ k ih =>
    unfold settleN
    split
    · next t ht => simp [ih t, react_frame s t ht]
    · simp

/-- The fields that settling leaves alone. -/
@[simp] theorem State.settle_frame (s : State) :
    s.settle.admission = s.admission ∧
    s.settle.inputs = s.inputs ∧
    s.settle.channels = s.channels ∧
    s.settle.store = s.store ∧
    s.settle.free = s.free ∧
    s.settle.pending = s.pending ∧
    s.settle.tape = s.tape := settleN_frame 64 s

/-- The fields that the end of a command leaves alone. -/
@[simp] theorem State.finish_frame (s : State) :
    s.finish.admission = s.admission ∧
    s.finish.inputs = s.inputs ∧
    s.finish.channels = s.channels ∧
    s.finish.store = s.store ∧
    s.finish.free = s.free ∧
    s.finish.pending = s.pending ∧
    s.finish.tape = s.tape := by
  simp [State.finish]

/-- The inputs' filtered states pass through settling. -/
@[simp] theorem State.settle_on (s : State) (x : Switch) : s.settle.on x = s.on x := by simp [State.on]

/-- The inputs' filtered states pass through the end of a command. -/
@[simp] theorem State.finish_on (s : State) (x : Switch) : s.finish.on x = s.on x := by simp [State.on]

end Sys2Proof.Machine
end

