-- ==== Sys2Proof/Laws/Reset.lean ====
section
/-! SUPPORT. What each shared operation of the resets leaves alone: one lemma for each operation. -/
namespace Sys2Proof.Machine

@[simp] theorem State.resetNotices_frame (s : State) :
    (State.resetNotices s).jobs = s.jobs ∧
    (State.resetNotices s).admission = s.admission ∧
    (State.resetNotices s).planner = s.planner ∧
    (State.resetNotices s).bankA = s.bankA ∧
    (State.resetNotices s).bankB = s.bankB ∧
    (State.resetNotices s).runner = s.runner ∧
    (State.resetNotices s).gauge = s.gauge ∧
    (State.resetNotices s).cycle = s.cycle ∧
    (State.resetNotices s).infeed = s.infeed ∧
    (State.resetNotices s).jogger = s.jogger ∧
    (State.resetNotices s).arbiter = s.arbiter ∧
    (State.resetNotices s).inputs = s.inputs ∧
    (State.resetNotices s).channels = s.channels ∧
    (State.resetNotices s).faults = s.faults ∧
    (State.resetNotices s).store = s.store ∧
    (State.resetNotices s).free = s.free ∧
    (State.resetNotices s).pending = s.pending ∧
    (State.resetNotices s).tape = s.tape := by
  generalize h : State.resetNotices s = r
  simp only [State.resetNotices] at h
  (repeat' split at h) <;> subst h <;> simp

end Sys2Proof.Machine
end

