-- ==== Sys2Proof/Laws/LinkCmds.lean ====
section
/-! SUPPORT. What each shared operation of the link commands leaves alone: one lemma for each operation. -/
namespace Sys2Proof.Machine

@[simp] theorem State.hunt_frame (s : State) :
    (State.hunt s).jobs = s.jobs ∧
    (State.hunt s).admission = s.admission ∧
    (State.hunt s).planner = s.planner ∧
    (State.hunt s).bankA = s.bankA ∧
    (State.hunt s).bankB = s.bankB ∧
    (State.hunt s).runner = s.runner ∧
    (State.hunt s).gauge = s.gauge ∧
    (State.hunt s).cycle = s.cycle ∧
    (State.hunt s).infeed = s.infeed ∧
    (State.hunt s).jogger = s.jogger ∧
    (State.hunt s).arbiter = s.arbiter ∧
    (State.hunt s).inputs = s.inputs ∧
    (State.hunt s).channels = s.channels ∧
    (State.hunt s).faults = s.faults ∧
    (State.hunt s).store = s.store ∧
    (State.hunt s).free = s.free ∧
    (State.hunt s).pending = s.pending ∧
    (State.hunt s).tape = s.tape := by
  simp [State.hunt]

@[simp] theorem State.offerFrame_frame (s : State) (f : Frame) :
    (State.offerFrame s f).jobs = s.jobs ∧
    (State.offerFrame s f).admission = s.admission ∧
    (State.offerFrame s f).planner = s.planner ∧
    (State.offerFrame s f).bankA = s.bankA ∧
    (State.offerFrame s f).bankB = s.bankB ∧
    (State.offerFrame s f).runner = s.runner ∧
    (State.offerFrame s f).gauge = s.gauge ∧
    (State.offerFrame s f).cycle = s.cycle ∧
    (State.offerFrame s f).infeed = s.infeed ∧
    (State.offerFrame s f).jogger = s.jogger ∧
    (State.offerFrame s f).arbiter = s.arbiter ∧
    (State.offerFrame s f).inputs = s.inputs ∧
    (State.offerFrame s f).channels = s.channels ∧
    (State.offerFrame s f).faults = s.faults ∧
    (State.offerFrame s f).store = s.store ∧
    (State.offerFrame s f).free = s.free ∧
    (State.offerFrame s f).pending = s.pending ∧
    (State.offerFrame s f).tape = s.tape := by
  generalize h : State.offerFrame s f = r
  unfold State.offerFrame at h
  (repeat' split at h) <;> subst h <;> simp

end Sys2Proof.Machine
end

