-- ==== Sys2Proof/Laws/CycleCmds.lean ====
section
/-! SUPPORT. What each shared operation of the Cut Cycle unit's events leaves alone: one lemma for each operation. -/
namespace Sys2Proof.Machine

@[simp] theorem State.endDwell_frame (s : State) :
    (State.endDwell s).link = s.link ∧
    (State.endDwell s).jobs = s.jobs ∧
    (State.endDwell s).admission = s.admission ∧
    (State.endDwell s).planner = s.planner ∧
    (State.endDwell s).bankA = s.bankA ∧
    (State.endDwell s).bankB = s.bankB ∧
    (State.endDwell s).gauge = s.gauge ∧
    (State.endDwell s).infeed = s.infeed ∧
    (State.endDwell s).jogger = s.jogger ∧
    (State.endDwell s).arbiter = s.arbiter ∧
    (State.endDwell s).inputs = s.inputs ∧
    (State.endDwell s).channels = s.channels ∧
    (State.endDwell s).faults = s.faults ∧
    (State.endDwell s).store = s.store ∧
    (State.endDwell s).free = s.free ∧
    (State.endDwell s).pending = s.pending ∧
    (State.endDwell s).tape = s.tape := by
  generalize h : State.endDwell s = r
  simp only [State.endDwell] at h
  (repeat' split at h) <;> subst h <;> simp

@[simp] theorem State.reachPressure_frame (s : State) :
    (State.reachPressure s).link = s.link ∧
    (State.reachPressure s).jobs = s.jobs ∧
    (State.reachPressure s).admission = s.admission ∧
    (State.reachPressure s).planner = s.planner ∧
    (State.reachPressure s).bankA = s.bankA ∧
    (State.reachPressure s).bankB = s.bankB ∧
    (State.reachPressure s).gauge = s.gauge ∧
    (State.reachPressure s).infeed = s.infeed ∧
    (State.reachPressure s).jogger = s.jogger ∧
    (State.reachPressure s).arbiter = s.arbiter ∧
    (State.reachPressure s).inputs = s.inputs ∧
    (State.reachPressure s).channels = s.channels ∧
    (State.reachPressure s).faults = s.faults ∧
    (State.reachPressure s).store = s.store ∧
    (State.reachPressure s).free = s.free ∧
    (State.reachPressure s).pending = s.pending ∧
    (State.reachPressure s).tape = s.tape := by
  generalize h : State.reachPressure s = r
  simp only [State.reachPressure] at h
  (repeat' split at h) <;> subst h <;> simp

@[simp] theorem State.clampHome_frame (s : State) :
    (State.clampHome s).jobs = s.jobs ∧
    (State.clampHome s).admission = s.admission ∧
    (State.clampHome s).planner = s.planner ∧
    (State.clampHome s).bankA = s.bankA ∧
    (State.clampHome s).bankB = s.bankB ∧
    (State.clampHome s).gauge = s.gauge ∧
    (State.clampHome s).infeed = s.infeed ∧
    (State.clampHome s).jogger = s.jogger ∧
    (State.clampHome s).inputs = s.inputs ∧
    (State.clampHome s).channels = s.channels ∧
    (State.clampHome s).faults = s.faults ∧
    (State.clampHome s).store = s.store ∧
    (State.clampHome s).free = s.free ∧
    (State.clampHome s).pending = s.pending ∧
    (State.clampHome s).tape = s.tape := by
  unfold State.clampHome
  split <;> simp

end Sys2Proof.Machine
end

