-- ==== Sys2Proof/Laws/GaugeCmds.lean ====
section
/-! SUPPORT. What each shared operation of the Gauge Axis's events leaves alone: one lemma for each operation. -/
namespace Sys2Proof.Machine

@[simp] theorem State.inPosition_frame (s : State) (m : Move) :
    (State.inPosition s m).jobs = s.jobs ∧
    (State.inPosition s m).admission = s.admission ∧
    (State.inPosition s m).planner = s.planner ∧
    (State.inPosition s m).bankA = s.bankA ∧
    (State.inPosition s m).bankB = s.bankB ∧
    (State.inPosition s m).cycle = s.cycle ∧
    (State.inPosition s m).infeed = s.infeed ∧
    (State.inPosition s m).jogger = s.jogger ∧
    (State.inPosition s m).arbiter = s.arbiter ∧
    (State.inPosition s m).inputs = s.inputs ∧
    (State.inPosition s m).channels = s.channels ∧
    (State.inPosition s m).faults = s.faults ∧
    (State.inPosition s m).store = s.store ∧
    (State.inPosition s m).free = s.free ∧
    (State.inPosition s m).pending = s.pending ∧
    (State.inPosition s m).tape = s.tape := by
  generalize h : State.inPosition s m = r
  simp only [State.inPosition] at h
  (repeat' split at h) <;> subst h <;> simp

@[simp] theorem State.correct_frame (s : State) (m : Move) :
    (State.correct s m).jobs = s.jobs ∧
    (State.correct s m).admission = s.admission ∧
    (State.correct s m).planner = s.planner ∧
    (State.correct s m).bankA = s.bankA ∧
    (State.correct s m).bankB = s.bankB ∧
    (State.correct s m).inputs = s.inputs ∧
    (State.correct s m).channels = s.channels ∧
    (State.correct s m).store = s.store ∧
    (State.correct s m).free = s.free ∧
    (State.correct s m).pending = s.pending ∧
    (State.correct s m).tape = s.tape := by
  unfold State.correct
  split <;> simp

@[simp] theorem State.checkPosition_frame (s : State) :
    (State.checkPosition s).jobs = s.jobs ∧
    (State.checkPosition s).admission = s.admission ∧
    (State.checkPosition s).planner = s.planner ∧
    (State.checkPosition s).bankA = s.bankA ∧
    (State.checkPosition s).bankB = s.bankB ∧
    (State.checkPosition s).inputs = s.inputs ∧
    (State.checkPosition s).channels = s.channels ∧
    (State.checkPosition s).store = s.store ∧
    (State.checkPosition s).free = s.free ∧
    (State.checkPosition s).pending = s.pending ∧
    (State.checkPosition s).tape = s.tape := by
  generalize h : State.checkPosition s = r
  unfold State.checkPosition at h
  (repeat' split at h) <;> subst h <;> simp

end Sys2Proof.Machine
end

