-- ==== Sys2Proof/Laws/InfeedCmds.lean ====
section
/-! SUPPORT. What each shared operation of the Infeed's events leaves alone: one lemma for each operation. -/
namespace Sys2Proof.Machine

@[simp] theorem State.readPile_frame (s : State) (pileTop : Nat) :
    (State.readPile s pileTop).link = s.link ∧
    (State.readPile s pileTop).jobs = s.jobs ∧
    (State.readPile s pileTop).admission = s.admission ∧
    (State.readPile s pileTop).planner = s.planner ∧
    (State.readPile s pileTop).bankA = s.bankA ∧
    (State.readPile s pileTop).bankB = s.bankB ∧
    (State.readPile s pileTop).runner = s.runner ∧
    (State.readPile s pileTop).gauge = s.gauge ∧
    (State.readPile s pileTop).cycle = s.cycle ∧
    (State.readPile s pileTop).infeed = s.infeed ∧
    (State.readPile s pileTop).jogger = s.jogger ∧
    (State.readPile s pileTop).arbiter = s.arbiter ∧
    (State.readPile s pileTop).inputs = s.inputs ∧
    (State.readPile s pileTop).faults = s.faults ∧
    (State.readPile s pileTop).store = s.store ∧
    (State.readPile s pileTop).free = s.free ∧
    (State.readPile s pileTop).pending = s.pending ∧
    (State.readPile s pileTop).tape = s.tape := by
  simp [State.readPile]

@[simp] theorem State.pileArrives_frame (s : State) (reading : Nat) :
    (State.pileArrives s reading).admission = s.admission ∧
    (State.pileArrives s reading).planner = s.planner ∧
    (State.pileArrives s reading).bankA = s.bankA ∧
    (State.pileArrives s reading).bankB = s.bankB ∧
    (State.pileArrives s reading).inputs = s.inputs ∧
    (State.pileArrives s reading).channels = s.channels ∧
    (State.pileArrives s reading).store = s.store ∧
    (State.pileArrives s reading).free = s.free ∧
    (State.pileArrives s reading).pending = s.pending ∧
    (State.pileArrives s reading).tape = s.tape := by
  generalize h : State.pileArrives s reading = r
  unfold State.pileArrives at h
  (repeat' split at h) <;> subst h <;> simp

@[simp] theorem State.pileLeaves_frame (s : State) :
    (State.pileLeaves s).jobs = s.jobs ∧
    (State.pileLeaves s).admission = s.admission ∧
    (State.pileLeaves s).planner = s.planner ∧
    (State.pileLeaves s).bankA = s.bankA ∧
    (State.pileLeaves s).bankB = s.bankB ∧
    (State.pileLeaves s).inputs = s.inputs ∧
    (State.pileLeaves s).channels = s.channels ∧
    (State.pileLeaves s).store = s.store ∧
    (State.pileLeaves s).free = s.free ∧
    (State.pileLeaves s).pending = s.pending ∧
    (State.pileLeaves s).tape = s.tape := by
  unfold State.pileLeaves
  split <;> simp

@[simp] theorem State.turnerMotionDone_frame (s : State) :
    (State.turnerMotionDone s).link = s.link ∧
    (State.turnerMotionDone s).jobs = s.jobs ∧
    (State.turnerMotionDone s).admission = s.admission ∧
    (State.turnerMotionDone s).planner = s.planner ∧
    (State.turnerMotionDone s).bankA = s.bankA ∧
    (State.turnerMotionDone s).bankB = s.bankB ∧
    (State.turnerMotionDone s).runner = s.runner ∧
    (State.turnerMotionDone s).gauge = s.gauge ∧
    (State.turnerMotionDone s).cycle = s.cycle ∧
    (State.turnerMotionDone s).jogger = s.jogger ∧
    (State.turnerMotionDone s).inputs = s.inputs ∧
    (State.turnerMotionDone s).channels = s.channels ∧
    (State.turnerMotionDone s).faults = s.faults ∧
    (State.turnerMotionDone s).store = s.store ∧
    (State.turnerMotionDone s).free = s.free ∧
    (State.turnerMotionDone s).pending = s.pending ∧
    (State.turnerMotionDone s).tape = s.tape := by
  simp [State.turnerMotionDone]

@[simp] theorem State.missPick_frame (s : State) (p : PileRec) :
    (State.missPick s p).jobs = s.jobs ∧
    (State.missPick s p).admission = s.admission ∧
    (State.missPick s p).planner = s.planner ∧
    (State.missPick s p).bankA = s.bankA ∧
    (State.missPick s p).bankB = s.bankB ∧
    (State.missPick s p).inputs = s.inputs ∧
    (State.missPick s p).channels = s.channels ∧
    (State.missPick s p).store = s.store ∧
    (State.missPick s p).free = s.free ∧
    (State.missPick s p).pending = s.pending ∧
    (State.missPick s p).tape = s.tape := by
  generalize h : State.missPick s p = r
  simp only [State.missPick] at h
  (repeat' split at h) <;> subst h <;> simp

@[simp] theorem State.liftDone_frame (s : State) :
    (State.liftDone s).admission = s.admission ∧
    (State.liftDone s).planner = s.planner ∧
    (State.liftDone s).inputs = s.inputs ∧
    (State.liftDone s).channels = s.channels ∧
    (State.liftDone s).store = s.store ∧
    (State.liftDone s).free = s.free ∧
    (State.liftDone s).pending = s.pending ∧
    (State.liftDone s).tape = s.tape := by
  generalize h : State.liftDone s = r
  unfold State.liftDone at h
  (repeat' split at h) <;> subst h <;> simp

@[simp] theorem State.liftMotionDone_frame (s : State) :
    (State.liftMotionDone s).admission = s.admission ∧
    (State.liftMotionDone s).planner = s.planner ∧
    (State.liftMotionDone s).inputs = s.inputs ∧
    (State.liftMotionDone s).channels = s.channels ∧
    (State.liftMotionDone s).store = s.store ∧
    (State.liftMotionDone s).free = s.free ∧
    (State.liftMotionDone s).pending = s.pending ∧
    (State.liftMotionDone s).tape = s.tape := by
  generalize h : State.liftMotionDone s = r
  simp only [State.liftMotionDone] at h
  (repeat' split at h) <;> subst h <;> simp

end Sys2Proof.Machine
end

