-- ==== Sys2Proof/Laws/Inputs.lean ====
section
/-! SUPPORT. Reading an input after it has been written, after a filtered change, after a reset's seeding and after a sample;
what one sample does to an input; the bounds of a channel's conversion. -/
namespace Sys2Proof.Machine

/-- An input reads as written, and every other input as before. -/
theorem Inputs.get_put (i : Inputs) (x y : Switch) (v : InputState) :
    (i.put x v).get y = if y = x then v else i.get y := by
  cases x <;> cases y <;> rfl

/-- After a filtered change the input has the level, and every other input is as before. -/
theorem State.sense_on (s : State) (x y : Switch) (level : Bool) :
    (s.sense x level).on y = if y = x then level else s.on y := by
  unfold State.sense
  split
  · next h =>
    by_cases hy : y = x
    · rw [if_pos hy, hy]
      exact h
    · rw [if_neg hy]
      rfl
  · change ((s.inputs.put x (InputState.seeded level)).get y).filtered = _
    rw [Inputs.get_put]
    by_cases hy : y = x
    · rw [if_pos hy, if_pos hy]
      rfl
    · rw [if_neg hy, if_neg hy]
      rfl

/-- The input itself after a filtered change. -/
@[simp] theorem State.sense_on_self (s : State) (x : Switch) (level : Bool) : (s.sense x level).on x = level := by
  rw [State.sense_on, if_pos rfl]

/-- Another input after a filtered change. -/
theorem State.sense_on_other (s : State) (x y : Switch) (level : Bool) (h : y ≠ x) :
    (s.sense x level).on y = s.on y := by
  rw [State.sense_on, if_neg h]

/-- Every input after the seeding of a reset. -/
@[simp] theorem seedInputs_get (level : Switch → Bool) (x : Switch) :
    (seedInputs level).get x = InputState.seeded (level x) := by
  cases x <;> rfl

/-- Every input after a sample of the whole field. -/
theorem State.sampleInputs_get (s : State) (raw : Switch → Bool) (x : Switch) :
    (s.sampleInputs raw).inputs.get x =
      (s.inputs.get x).sample (raw x) (stableCount s.store.consts x) (x = .eStop && raw x) (changeOf s x (raw x)).isSome := by
  cases x <;> rfl

/-- All that one sample can do to an input: it agrees and the counter is cleared; it differs and is counted, with the change not
yet decided, made at once, or left due for its command. -/
theorem InputState.sample_cases (i : InputState) (raw : Bool) (nf : Nat) (opens rowed : Bool) :
    (raw = i.filtered ∧ i.sample raw nf opens rowed = ⟨raw, i.filtered, 0, false⟩) ∨
      (raw ≠ i.filtered ∧ min (i.count + 1) 15 < nf ∧ opens = false ∧
        i.sample raw nf opens rowed = ⟨raw, i.filtered, min (i.count + 1) 15, false⟩) ∨
      (raw ≠ i.filtered ∧ (nf ≤ min (i.count + 1) 15 ∨ opens = true) ∧ rowed = false ∧
        i.sample raw nf opens rowed = InputState.seeded raw) ∨
      (raw ≠ i.filtered ∧ (nf ≤ min (i.count + 1) 15 ∨ opens = true) ∧ rowed = true ∧
        i.sample raw nf opens rowed = ⟨raw, i.filtered, min (i.count + 1) 15, true⟩) := by
  by_cases h : raw = i.filtered
  · exact .inl ⟨h, by simp [InputState.sample, h]⟩
  · by_cases hn : nf ≤ min (i.count + 1) 15
    · cases rowed <;> simp [InputState.sample, h, hn]
    · have : min (i.count + 1) 15 < nf := by omega
      cases opens <;> cases rowed <;> simp [InputState.sample, h, hn, this]

/-- A sample leaves the raw state as the sample shows it. -/
@[simp] theorem InputState.sample_raw (i : InputState) (raw : Bool) (nf : Nat) (opens rowed : Bool) :
    (i.sample raw nf opens rowed).raw = raw := by
  obtain h | h | h | h := InputState.sample_cases i raw nf opens rowed
  · rw [h.2]
  · rw [h.2.2.2]
  · rw [h.2.2.2]
    rfl
  · rw [h.2.2.2]

/-- A reading never passes the top of its channel's range (R167). -/
theorem convert_le (top : Nat) (signal : Int) : convert top signal ≤ top := by
  unfold convert
  split
  · exact Nat.zero_le _
  · split
    · exact Nat.le_refl _
    · next h0 h1 =>
      have hs : signal.toNat < fullScale := by omega
      have hlt : signal.toNat * top / fullScale + (if signal.toNat * top % fullScale ≠ 0 then 1 else 0) ≤ top := by
        have hm : signal.toNat * top ≤ (fullScale - 1) * top := Nat.mul_le_mul_right _ (by omega)
        have hd := Nat.div_add_mod (signal.toNat * top) fullScale
        have hq : signal.toNat * top / fullScale ≤ top := by
          apply Nat.div_le_of_le_mul
          exact Nat.le_trans hm (Nat.mul_le_mul_right _ (by omega))
        split
        · next hr =>
          by_cases he : signal.toNat * top / fullScale = top
          · rw [he] at hd
            have : 0 < signal.toNat * top % fullScale := by omega
            have hb : (fullScale - 1) * top ≤ fullScale * top := Nat.mul_le_mul_right _ (by omega)
            omega
          · omega
        · omega
      refine Nat.le_trans (Nat.add_le_add_left ?_ _) hlt
      split <;> split <;> simp_all

end Sys2Proof.Machine
end

