-- ==== Sys2Proof/Laws/JoggerCmds.lean ====
section
/-! SUPPORT. What each shared operation of the Jogger's events leaves alone: one lemma for each operation. -/
namespace Sys2Proof.Machine

@[simp] theorem State.endScan_frame (s : State) (r : ScanRun) (pulses : EdgeCounts) :
    (State.endScan s r pulses).link = s.link ∧
    (State.endScan s r pulses).jobs = s.jobs ∧
    (State.endScan s r pulses).admission = s.admission ∧
    (State.endScan s r pulses).planner = s.planner ∧
    (State.endScan s r pulses).bankA = s.bankA ∧
    (State.endScan s r pulses).bankB = s.bankB ∧
    (State.endScan s r pulses).runner = s.runner ∧
    (State.endScan s r pulses).gauge = s.gauge ∧
    (State.endScan s r pulses).cycle = s.cycle ∧
    (State.endScan s r pulses).infeed = s.infeed ∧
    (State.endScan s r pulses).arbiter = s.arbiter ∧
    (State.endScan s r pulses).inputs = s.inputs ∧
    (State.endScan s r pulses).channels = s.channels ∧
    (State.endScan s r pulses).faults = s.faults ∧
    (State.endScan s r pulses).store = s.store ∧
    (State.endScan s r pulses).free = s.free ∧
    (State.endScan s r pulses).pending = s.pending ∧
    (State.endScan s r pulses).tape = s.tape := by
  generalize h : State.endScan s r pulses = r
  simp only [State.endScan] at h
  (repeat' split at h) <;> subst h <;> simp

@[simp] theorem State.jogTimeout_frame (s : State) :
    (State.jogTimeout s).jobs = s.jobs ∧
    (State.jogTimeout s).admission = s.admission ∧
    (State.jogTimeout s).planner = s.planner ∧
    (State.jogTimeout s).bankA = s.bankA ∧
    (State.jogTimeout s).bankB = s.bankB ∧
    (State.jogTimeout s).inputs = s.inputs ∧
    (State.jogTimeout s).channels = s.channels ∧
    (State.jogTimeout s).store = s.store ∧
    (State.jogTimeout s).free = s.free ∧
    (State.jogTimeout s).pending = s.pending ∧
    (State.jogTimeout s).tape = s.tape := by
  unfold State.jogTimeout
  split <;> simp

@[simp] theorem State.transferTimeout_frame (s : State) :
    (State.transferTimeout s).jobs = s.jobs ∧
    (State.transferTimeout s).admission = s.admission ∧
    (State.transferTimeout s).planner = s.planner ∧
    (State.transferTimeout s).bankA = s.bankA ∧
    (State.transferTimeout s).bankB = s.bankB ∧
    (State.transferTimeout s).inputs = s.inputs ∧
    (State.transferTimeout s).channels = s.channels ∧
    (State.transferTimeout s).store = s.store ∧
    (State.transferTimeout s).free = s.free ∧
    (State.transferTimeout s).pending = s.pending ∧
    (State.transferTimeout s).tape = s.tape := by
  simp [State.transferTimeout]

end Sys2Proof.Machine
end

