-- ==== Sys2Proof/Laws/RequestCmds.lean ====
section
/-! SUPPORT. What each shared operation of the requests leaves alone: one lemma for each operation. -/
namespace Sys2Proof.Machine

@[simp] theorem submitJob_frame (f : Frame) (s : State) :
    (submitJob f s).admission = s.admission ∧
    (submitJob f s).planner = s.planner ∧
    (submitJob f s).bankA = s.bankA ∧
    (submitJob f s).bankB = s.bankB ∧
    (submitJob f s).runner = s.runner ∧
    (submitJob f s).gauge = s.gauge ∧
    (submitJob f s).cycle = s.cycle ∧
    (submitJob f s).infeed = s.infeed ∧
    (submitJob f s).jogger = s.jogger ∧
    (submitJob f s).arbiter = s.arbiter ∧
    (submitJob f s).inputs = s.inputs ∧
    (submitJob f s).channels = s.channels ∧
    (submitJob f s).faults = s.faults ∧
    (submitJob f s).store = s.store ∧
    (submitJob f s).free = s.free ∧
    (submitJob f s).pending = s.pending ∧
    (submitJob f s).tape = s.tape := by
  generalize h : submitJob f s = r
  simp only [submitJob] at h
  (repeat' split at h) <;> subst h <;> simp

@[simp] theorem State.clearStations_frame (s : State) (n : Nat) :
    (State.clearStations s n).jobs = s.jobs ∧
    (State.clearStations s n).admission = s.admission ∧
    (State.clearStations s n).planner = s.planner ∧
    (State.clearStations s n).bankA = s.bankA ∧
    (State.clearStations s n).bankB = s.bankB ∧
    (State.clearStations s n).gauge = s.gauge ∧
    (State.clearStations s n).inputs = s.inputs ∧
    (State.clearStations s n).channels = s.channels ∧
    (State.clearStations s n).faults = s.faults ∧
    (State.clearStations s n).store = s.store ∧
    (State.clearStations s n).free = s.free ∧
    (State.clearStations s n).pending = s.pending ∧
    (State.clearStations s n).tape = s.tape := by
  generalize h : State.clearStations s n = r
  simp only [State.clearStations] at h
  (repeat' split at h) <;> subst h <;> simp

@[simp] theorem State.undoJob_frame (s : State) (e : JobEntry) :
    (State.undoJob s e).jobs = s.jobs ∧
    (State.undoJob s e).admission = s.admission ∧
    (State.undoJob s e).bankA = s.bankA ∧
    (State.undoJob s e).bankB = s.bankB ∧
    (State.undoJob s e).gauge = s.gauge ∧
    (State.undoJob s e).inputs = s.inputs ∧
    (State.undoJob s e).channels = s.channels ∧
    (State.undoJob s e).faults = s.faults ∧
    (State.undoJob s e).store = s.store ∧
    (State.undoJob s e).free = s.free ∧
    (State.undoJob s e).pending = s.pending ∧
    (State.undoJob s e).tape = s.tape := by
  unfold State.undoJob
  split <;> simp

@[simp] theorem withdrawJob_frame (f : Frame) (s : State) :
    (withdrawJob f s).admission = s.admission ∧
    (withdrawJob f s).gauge = s.gauge ∧
    (withdrawJob f s).inputs = s.inputs ∧
    (withdrawJob f s).channels = s.channels ∧
    (withdrawJob f s).faults = s.faults ∧
    (withdrawJob f s).store = s.store ∧
    (withdrawJob f s).free = s.free ∧
    (withdrawJob f s).pending = s.pending ∧
    (withdrawJob f s).tape = s.tape := by
  unfold withdrawJob
  split <;> simp

@[simp] theorem reportJob_frame (f : Frame) (s : State) :
    (reportJob f s).jobs = s.jobs ∧
    (reportJob f s).admission = s.admission ∧
    (reportJob f s).planner = s.planner ∧
    (reportJob f s).bankA = s.bankA ∧
    (reportJob f s).bankB = s.bankB ∧
    (reportJob f s).runner = s.runner ∧
    (reportJob f s).gauge = s.gauge ∧
    (reportJob f s).cycle = s.cycle ∧
    (reportJob f s).infeed = s.infeed ∧
    (reportJob f s).jogger = s.jogger ∧
    (reportJob f s).arbiter = s.arbiter ∧
    (reportJob f s).inputs = s.inputs ∧
    (reportJob f s).channels = s.channels ∧
    (reportJob f s).faults = s.faults ∧
    (reportJob f s).store = s.store ∧
    (reportJob f s).free = s.free ∧
    (reportJob f s).pending = s.pending ∧
    (reportJob f s).tape = s.tape := by
  unfold reportJob
  split <;> simp

@[simp] theorem reportLine_frame (f : Frame) (s : State) :
    (reportLine f s).jobs = s.jobs ∧
    (reportLine f s).admission = s.admission ∧
    (reportLine f s).planner = s.planner ∧
    (reportLine f s).bankA = s.bankA ∧
    (reportLine f s).bankB = s.bankB ∧
    (reportLine f s).runner = s.runner ∧
    (reportLine f s).gauge = s.gauge ∧
    (reportLine f s).cycle = s.cycle ∧
    (reportLine f s).infeed = s.infeed ∧
    (reportLine f s).jogger = s.jogger ∧
    (reportLine f s).arbiter = s.arbiter ∧
    (reportLine f s).inputs = s.inputs ∧
    (reportLine f s).channels = s.channels ∧
    (reportLine f s).faults = s.faults ∧
    (reportLine f s).store = s.store ∧
    (reportLine f s).free = s.free ∧
    (reportLine f s).pending = s.pending ∧
    (reportLine f s).tape = s.tape := by
  simp [reportLine]

@[simp] theorem setHold_frame (f : Frame) (s : State) :
    (setHold f s).jobs = s.jobs ∧
    (setHold f s).admission = s.admission ∧
    (setHold f s).planner = s.planner ∧
    (setHold f s).bankA = s.bankA ∧
    (setHold f s).bankB = s.bankB ∧
    (setHold f s).gauge = s.gauge ∧
    (setHold f s).cycle = s.cycle ∧
    (setHold f s).infeed = s.infeed ∧
    (setHold f s).jogger = s.jogger ∧
    (setHold f s).arbiter = s.arbiter ∧
    (setHold f s).inputs = s.inputs ∧
    (setHold f s).channels = s.channels ∧
    (setHold f s).faults = s.faults ∧
    (setHold f s).store = s.store ∧
    (setHold f s).free = s.free ∧
    (setHold f s).pending = s.pending ∧
    (setHold f s).tape = s.tape := by
  simp [setHold]

@[simp] theorem clearHold_frame (f : Frame) (s : State) :
    (clearHold f s).admission = s.admission ∧
    (clearHold f s).planner = s.planner ∧
    (clearHold f s).gauge = s.gauge ∧
    (clearHold f s).cycle = s.cycle ∧
    (clearHold f s).infeed = s.infeed ∧
    (clearHold f s).jogger = s.jogger ∧
    (clearHold f s).arbiter = s.arbiter ∧
    (clearHold f s).inputs = s.inputs ∧
    (clearHold f s).channels = s.channels ∧
    (clearHold f s).faults = s.faults ∧
    (clearHold f s).store = s.store ∧
    (clearHold f s).free = s.free ∧
    (clearHold f s).pending = s.pending ∧
    (clearHold f s).tape = s.tape := by
  generalize h : clearHold f s = r
  simp only [clearHold] at h
  (repeat' split at h) <;> subst h <;> simp

@[simp] theorem setLevel_frame (f : Frame) (s : State) :
    (setLevel f s).jobs = s.jobs ∧
    (setLevel f s).planner = s.planner ∧
    (setLevel f s).bankA = s.bankA ∧
    (setLevel f s).bankB = s.bankB ∧
    (setLevel f s).runner = s.runner ∧
    (setLevel f s).gauge = s.gauge ∧
    (setLevel f s).cycle = s.cycle ∧
    (setLevel f s).infeed = s.infeed ∧
    (setLevel f s).jogger = s.jogger ∧
    (setLevel f s).arbiter = s.arbiter ∧
    (setLevel f s).inputs = s.inputs ∧
    (setLevel f s).channels = s.channels ∧
    (setLevel f s).faults = s.faults ∧
    (setLevel f s).store = s.store ∧
    (setLevel f s).free = s.free ∧
    (setLevel f s).pending = s.pending ∧
    (setLevel f s).tape = s.tape := by
  generalize h : setLevel f s = r
  simp only [setLevel] at h
  (repeat' split at h) <;> subst h <;> simp

@[simp] theorem State.view_frame (s : State) (v : FieldView) :
    (State.view s v).link = s.link ∧
    (State.view s v).jobs = s.jobs ∧
    (State.view s v).admission = s.admission ∧
    (State.view s v).planner = s.planner ∧
    (State.view s v).bankA = s.bankA ∧
    (State.view s v).bankB = s.bankB ∧
    (State.view s v).runner = s.runner ∧
    (State.view s v).gauge = s.gauge ∧
    (State.view s v).cycle = s.cycle ∧
    (State.view s v).infeed = s.infeed ∧
    (State.view s v).jogger = s.jogger ∧
    (State.view s v).arbiter = s.arbiter ∧
    (State.view s v).faults = s.faults ∧
    (State.view s v).store = s.store ∧
    (State.view s v).free = s.free ∧
    (State.view s v).pending = s.pending ∧
    (State.view s v).tape = s.tape := by
  simp [State.view]

@[simp] theorem clearRequest_frame (v : FieldView) (f : Frame) (s : State) :
    (clearRequest v f s).jobs = s.jobs ∧
    (clearRequest v f s).admission = s.admission ∧
    (clearRequest v f s).planner = s.planner ∧
    (clearRequest v f s).bankA = s.bankA ∧
    (clearRequest v f s).bankB = s.bankB ∧
    (clearRequest v f s).runner = s.runner ∧
    (clearRequest v f s).gauge = s.gauge ∧
    (clearRequest v f s).cycle = s.cycle ∧
    (clearRequest v f s).infeed = s.infeed ∧
    (clearRequest v f s).jogger = s.jogger ∧
    (clearRequest v f s).arbiter = s.arbiter ∧
    (clearRequest v f s).store = s.store ∧
    (clearRequest v f s).free = s.free ∧
    (clearRequest v f s).pending = s.pending ∧
    (clearRequest v f s).tape = s.tape := by
  simp [clearRequest]

@[simp] theorem referenceRequest_frame (f : Frame) (s : State) :
    (referenceRequest f s).jobs = s.jobs ∧
    (referenceRequest f s).admission = s.admission ∧
    (referenceRequest f s).planner = s.planner ∧
    (referenceRequest f s).bankA = s.bankA ∧
    (referenceRequest f s).bankB = s.bankB ∧
    (referenceRequest f s).runner = s.runner ∧
    (referenceRequest f s).cycle = s.cycle ∧
    (referenceRequest f s).infeed = s.infeed ∧
    (referenceRequest f s).jogger = s.jogger ∧
    (referenceRequest f s).arbiter = s.arbiter ∧
    (referenceRequest f s).inputs = s.inputs ∧
    (referenceRequest f s).channels = s.channels ∧
    (referenceRequest f s).faults = s.faults ∧
    (referenceRequest f s).store = s.store ∧
    (referenceRequest f s).free = s.free ∧
    (referenceRequest f s).pending = s.pending ∧
    (referenceRequest f s).tape = s.tape := by
  unfold referenceRequest
  split <;> simp

@[simp] theorem State.startWrite_frame (s : State) (f : Frame) (t : WriteTarget) :
    (State.startWrite s f t).link = s.link ∧
    (State.startWrite s f t).jobs = s.jobs ∧
    (State.startWrite s f t).admission = s.admission ∧
    (State.startWrite s f t).planner = s.planner ∧
    (State.startWrite s f t).bankA = s.bankA ∧
    (State.startWrite s f t).bankB = s.bankB ∧
    (State.startWrite s f t).runner = s.runner ∧
    (State.startWrite s f t).gauge = s.gauge ∧
    (State.startWrite s f t).cycle = s.cycle ∧
    (State.startWrite s f t).infeed = s.infeed ∧
    (State.startWrite s f t).jogger = s.jogger ∧
    (State.startWrite s f t).arbiter = s.arbiter ∧
    (State.startWrite s f t).inputs = s.inputs ∧
    (State.startWrite s f t).channels = s.channels ∧
    (State.startWrite s f t).faults = s.faults ∧
    (State.startWrite s f t).free = s.free ∧
    (State.startWrite s f t).pending = s.pending ∧
    (State.startWrite s f t).tape = s.tape := by
  simp [State.startWrite]

@[simp] theorem classWrite_frame (f : Frame) (s : State) :
    (classWrite f s).jobs = s.jobs ∧
    (classWrite f s).admission = s.admission ∧
    (classWrite f s).planner = s.planner ∧
    (classWrite f s).bankA = s.bankA ∧
    (classWrite f s).bankB = s.bankB ∧
    (classWrite f s).runner = s.runner ∧
    (classWrite f s).gauge = s.gauge ∧
    (classWrite f s).cycle = s.cycle ∧
    (classWrite f s).infeed = s.infeed ∧
    (classWrite f s).jogger = s.jogger ∧
    (classWrite f s).arbiter = s.arbiter ∧
    (classWrite f s).inputs = s.inputs ∧
    (classWrite f s).channels = s.channels ∧
    (classWrite f s).faults = s.faults ∧
    (classWrite f s).free = s.free ∧
    (classWrite f s).pending = s.pending ∧
    (classWrite f s).tape = s.tape := by
  generalize h : classWrite f s = r
  simp only [classWrite] at h
  (repeat' split at h) <;> subst h <;> simp

@[simp] theorem classRead_frame (f : Frame) (s : State) :
    (classRead f s).jobs = s.jobs ∧
    (classRead f s).admission = s.admission ∧
    (classRead f s).planner = s.planner ∧
    (classRead f s).bankA = s.bankA ∧
    (classRead f s).bankB = s.bankB ∧
    (classRead f s).runner = s.runner ∧
    (classRead f s).gauge = s.gauge ∧
    (classRead f s).cycle = s.cycle ∧
    (classRead f s).infeed = s.infeed ∧
    (classRead f s).jogger = s.jogger ∧
    (classRead f s).arbiter = s.arbiter ∧
    (classRead f s).inputs = s.inputs ∧
    (classRead f s).channels = s.channels ∧
    (classRead f s).faults = s.faults ∧
    (classRead f s).store = s.store ∧
    (classRead f s).free = s.free ∧
    (classRead f s).pending = s.pending ∧
    (classRead f s).tape = s.tape := by
  generalize h : classRead f s = r
  simp only [classRead] at h
  (repeat' split at h) <;> subst h <;> simp

@[simp] theorem constWrite_frame (serviceKey : Bool) (f : Frame) (s : State) :
    (constWrite serviceKey f s).jobs = s.jobs ∧
    (constWrite serviceKey f s).admission = s.admission ∧
    (constWrite serviceKey f s).planner = s.planner ∧
    (constWrite serviceKey f s).bankA = s.bankA ∧
    (constWrite serviceKey f s).bankB = s.bankB ∧
    (constWrite serviceKey f s).runner = s.runner ∧
    (constWrite serviceKey f s).gauge = s.gauge ∧
    (constWrite serviceKey f s).cycle = s.cycle ∧
    (constWrite serviceKey f s).infeed = s.infeed ∧
    (constWrite serviceKey f s).jogger = s.jogger ∧
    (constWrite serviceKey f s).arbiter = s.arbiter ∧
    (constWrite serviceKey f s).channels = s.channels ∧
    (constWrite serviceKey f s).faults = s.faults ∧
    (constWrite serviceKey f s).free = s.free ∧
    (constWrite serviceKey f s).pending = s.pending ∧
    (constWrite serviceKey f s).tape = s.tape := by
  generalize h : constWrite serviceKey f s = r
  simp only [constWrite] at h
  (repeat' split at h) <;> subst h <;> simp

@[simp] theorem constRead_frame (f : Frame) (s : State) :
    (constRead f s).jobs = s.jobs ∧
    (constRead f s).admission = s.admission ∧
    (constRead f s).planner = s.planner ∧
    (constRead f s).bankA = s.bankA ∧
    (constRead f s).bankB = s.bankB ∧
    (constRead f s).runner = s.runner ∧
    (constRead f s).gauge = s.gauge ∧
    (constRead f s).cycle = s.cycle ∧
    (constRead f s).infeed = s.infeed ∧
    (constRead f s).jogger = s.jogger ∧
    (constRead f s).arbiter = s.arbiter ∧
    (constRead f s).inputs = s.inputs ∧
    (constRead f s).channels = s.channels ∧
    (constRead f s).faults = s.faults ∧
    (constRead f s).store = s.store ∧
    (constRead f s).free = s.free ∧
    (constRead f s).pending = s.pending ∧
    (constRead f s).tape = s.tape := by
  generalize h : constRead f s = r
  simp only [constRead] at h
  (repeat' split at h) <;> subst h <;> simp

@[simp] theorem State.completeWrite_frame (s : State) (w : StoreWrite) :
    (State.completeWrite s w).jobs = s.jobs ∧
    (State.completeWrite s w).admission = s.admission ∧
    (State.completeWrite s w).planner = s.planner ∧
    (State.completeWrite s w).bankA = s.bankA ∧
    (State.completeWrite s w).bankB = s.bankB ∧
    (State.completeWrite s w).runner = s.runner ∧
    (State.completeWrite s w).gauge = s.gauge ∧
    (State.completeWrite s w).cycle = s.cycle ∧
    (State.completeWrite s w).infeed = s.infeed ∧
    (State.completeWrite s w).jogger = s.jogger ∧
    (State.completeWrite s w).arbiter = s.arbiter ∧
    (State.completeWrite s w).inputs = s.inputs ∧
    (State.completeWrite s w).channels = s.channels ∧
    (State.completeWrite s w).faults = s.faults ∧
    (State.completeWrite s w).free = s.free ∧
    (State.completeWrite s w).pending = s.pending ∧
    (State.completeWrite s w).tape = s.tape := by
  generalize h : State.completeWrite s w = r
  simp only [State.completeWrite] at h
  (repeat' split at h) <;> subst h <;> simp

@[simp] theorem setMode_frame (f : Frame) (s : State) :
    (setMode f s).jobs = s.jobs ∧
    (setMode f s).admission = s.admission ∧
    (setMode f s).planner = s.planner ∧
    (setMode f s).bankA = s.bankA ∧
    (setMode f s).bankB = s.bankB ∧
    (setMode f s).runner = s.runner ∧
    (setMode f s).gauge = s.gauge ∧
    (setMode f s).cycle = s.cycle ∧
    (setMode f s).infeed = s.infeed ∧
    (setMode f s).jogger = s.jogger ∧
    (setMode f s).arbiter = s.arbiter ∧
    (setMode f s).inputs = s.inputs ∧
    (setMode f s).channels = s.channels ∧
    (setMode f s).faults = s.faults ∧
    (setMode f s).store = s.store ∧
    (setMode f s).free = s.free ∧
    (setMode f s).pending = s.pending ∧
    (setMode f s).tape = s.tape := by
  unfold setMode
  split <;> simp

@[simp] theorem rearmClass_frame (f : Frame) (s : State) :
    (rearmClass f s).jobs = s.jobs ∧
    (rearmClass f s).admission = s.admission ∧
    (rearmClass f s).planner = s.planner ∧
    (rearmClass f s).bankA = s.bankA ∧
    (rearmClass f s).bankB = s.bankB ∧
    (rearmClass f s).runner = s.runner ∧
    (rearmClass f s).gauge = s.gauge ∧
    (rearmClass f s).cycle = s.cycle ∧
    (rearmClass f s).infeed = s.infeed ∧
    (rearmClass f s).jogger = s.jogger ∧
    (rearmClass f s).arbiter = s.arbiter ∧
    (rearmClass f s).inputs = s.inputs ∧
    (rearmClass f s).channels = s.channels ∧
    (rearmClass f s).faults = s.faults ∧
    (rearmClass f s).store = s.store ∧
    (rearmClass f s).free = s.free ∧
    (rearmClass f s).pending = s.pending ∧
    (rearmClass f s).tape = s.tape := by
  unfold rearmClass
  split <;> simp

@[simp] theorem restartRequest_frame (f : Frame) (s : State) :
    (restartRequest f s).jobs = s.jobs ∧
    (restartRequest f s).admission = s.admission ∧
    (restartRequest f s).planner = s.planner ∧
    (restartRequest f s).bankA = s.bankA ∧
    (restartRequest f s).bankB = s.bankB ∧
    (restartRequest f s).runner = s.runner ∧
    (restartRequest f s).gauge = s.gauge ∧
    (restartRequest f s).cycle = s.cycle ∧
    (restartRequest f s).infeed = s.infeed ∧
    (restartRequest f s).jogger = s.jogger ∧
    (restartRequest f s).arbiter = s.arbiter ∧
    (restartRequest f s).inputs = s.inputs ∧
    (restartRequest f s).channels = s.channels ∧
    (restartRequest f s).faults = s.faults ∧
    (restartRequest f s).store = s.store ∧
    (restartRequest f s).free = s.free ∧
    (restartRequest f s).pending = s.pending ∧
    (restartRequest f s).tape = s.tape := by
  unfold restartRequest
  split <;> simp

end Sys2Proof.Machine
end

