-- ==== Sys2Proof/Laws/PanelCmds.lean ====
section
/-! SUPPORT. What each shared operation of the panel leaves alone: one lemma for each operation. -/
namespace Sys2Proof.Machine

@[simp] theorem State.pressHand_frame (s : State) :
    (State.pressHand s).link = s.link ∧
    (State.pressHand s).jobs = s.jobs ∧
    (State.pressHand s).admission = s.admission ∧
    (State.pressHand s).planner = s.planner ∧
    (State.pressHand s).bankA = s.bankA ∧
    (State.pressHand s).bankB = s.bankB ∧
    (State.pressHand s).runner = s.runner ∧
    (State.pressHand s).gauge = s.gauge ∧
    (State.pressHand s).infeed = s.infeed ∧
    (State.pressHand s).jogger = s.jogger ∧
    (State.pressHand s).inputs = s.inputs ∧
    (State.pressHand s).channels = s.channels ∧
    (State.pressHand s).faults = s.faults ∧
    (State.pressHand s).store = s.store ∧
    (State.pressHand s).free = s.free ∧
    (State.pressHand s).pending = s.pending ∧
    (State.pressHand s).tape = s.tape := by
  generalize h : State.pressHand s = r
  unfold State.pressHand at h
  (repeat' split at h) <;> subst h <;> simp

@[simp] theorem State.releaseEngaged_frame (s : State) :
    (State.releaseEngaged s).link = s.link ∧
    (State.releaseEngaged s).jobs = s.jobs ∧
    (State.releaseEngaged s).admission = s.admission ∧
    (State.releaseEngaged s).planner = s.planner ∧
    (State.releaseEngaged s).bankA = s.bankA ∧
    (State.releaseEngaged s).bankB = s.bankB ∧
    (State.releaseEngaged s).gauge = s.gauge ∧
    (State.releaseEngaged s).infeed = s.infeed ∧
    (State.releaseEngaged s).jogger = s.jogger ∧
    (State.releaseEngaged s).inputs = s.inputs ∧
    (State.releaseEngaged s).channels = s.channels ∧
    (State.releaseEngaged s).faults = s.faults ∧
    (State.releaseEngaged s).store = s.store ∧
    (State.releaseEngaged s).free = s.free ∧
    (State.releaseEngaged s).pending = s.pending ∧
    (State.releaseEngaged s).tape = s.tape := by
  generalize h : State.releaseEngaged s = r
  simp only [State.releaseEngaged] at h
  (repeat' split at h) <;> subst h <;> simp

@[simp] theorem State.releaseHand_frame (s : State) :
    (State.releaseHand s).link = s.link ∧
    (State.releaseHand s).jobs = s.jobs ∧
    (State.releaseHand s).admission = s.admission ∧
    (State.releaseHand s).planner = s.planner ∧
    (State.releaseHand s).bankA = s.bankA ∧
    (State.releaseHand s).bankB = s.bankB ∧
    (State.releaseHand s).gauge = s.gauge ∧
    (State.releaseHand s).infeed = s.infeed ∧
    (State.releaseHand s).jogger = s.jogger ∧
    (State.releaseHand s).inputs = s.inputs ∧
    (State.releaseHand s).channels = s.channels ∧
    (State.releaseHand s).faults = s.faults ∧
    (State.releaseHand s).store = s.store ∧
    (State.releaseHand s).free = s.free ∧
    (State.releaseHand s).pending = s.pending ∧
    (State.releaseHand s).tape = s.tape := by
  generalize h : State.releaseHand s = r
  simp only [State.releaseHand] at h
  (repeat' split at h) <;> subst h <;> simp

@[simp] theorem State.confirmStep_frame (s : State) (t : CutStep) :
    (State.confirmStep s t).admission = s.admission ∧
    (State.confirmStep s t).planner = s.planner ∧
    (State.confirmStep s t).gauge = s.gauge ∧
    (State.confirmStep s t).cycle = s.cycle ∧
    (State.confirmStep s t).infeed = s.infeed ∧
    (State.confirmStep s t).jogger = s.jogger ∧
    (State.confirmStep s t).arbiter = s.arbiter ∧
    (State.confirmStep s t).inputs = s.inputs ∧
    (State.confirmStep s t).channels = s.channels ∧
    (State.confirmStep s t).faults = s.faults ∧
    (State.confirmStep s t).store = s.store ∧
    (State.confirmStep s t).free = s.free ∧
    (State.confirmStep s t).pending = s.pending ∧
    (State.confirmStep s t).tape = s.tape := by
  simp [State.confirmStep]

@[simp] theorem State.confirmTurn_frame (s : State) (t : CutStep) (kind : TurnKind) (measured : Nat) :
    (State.confirmTurn s t kind measured).admission = s.admission ∧
    (State.confirmTurn s t kind measured).planner = s.planner ∧
    (State.confirmTurn s t kind measured).gauge = s.gauge ∧
    (State.confirmTurn s t kind measured).cycle = s.cycle ∧
    (State.confirmTurn s t kind measured).infeed = s.infeed ∧
    (State.confirmTurn s t kind measured).jogger = s.jogger ∧
    (State.confirmTurn s t kind measured).arbiter = s.arbiter ∧
    (State.confirmTurn s t kind measured).inputs = s.inputs ∧
    (State.confirmTurn s t kind measured).channels = s.channels ∧
    (State.confirmTurn s t kind measured).faults = s.faults ∧
    (State.confirmTurn s t kind measured).store = s.store ∧
    (State.confirmTurn s t kind measured).free = s.free ∧
    (State.confirmTurn s t kind measured).pending = s.pending ∧
    (State.confirmTurn s t kind measured).tape = s.tape := by
  unfold State.confirmTurn
  split <;> simp

@[simp] theorem State.confirmRecall_frame (s : State) (t : CutStep) (measured : Nat) :
    (State.confirmRecall s t measured).admission = s.admission ∧
    (State.confirmRecall s t measured).planner = s.planner ∧
    (State.confirmRecall s t measured).gauge = s.gauge ∧
    (State.confirmRecall s t measured).cycle = s.cycle ∧
    (State.confirmRecall s t measured).infeed = s.infeed ∧
    (State.confirmRecall s t measured).jogger = s.jogger ∧
    (State.confirmRecall s t measured).arbiter = s.arbiter ∧
    (State.confirmRecall s t measured).inputs = s.inputs ∧
    (State.confirmRecall s t measured).channels = s.channels ∧
    (State.confirmRecall s t measured).faults = s.faults ∧
    (State.confirmRecall s t measured).store = s.store ∧
    (State.confirmRecall s t measured).free = s.free ∧
    (State.confirmRecall s t measured).pending = s.pending ∧
    (State.confirmRecall s t measured).tape = s.tape := by
  unfold State.confirmRecall
  split <;> simp

@[simp] theorem State.confirm_frame (s : State) (measured : Nat) :
    (State.confirm s measured).admission = s.admission ∧
    (State.confirm s measured).planner = s.planner ∧
    (State.confirm s measured).gauge = s.gauge ∧
    (State.confirm s measured).cycle = s.cycle ∧
    (State.confirm s measured).infeed = s.infeed ∧
    (State.confirm s measured).jogger = s.jogger ∧
    (State.confirm s measured).arbiter = s.arbiter ∧
    (State.confirm s measured).inputs = s.inputs ∧
    (State.confirm s measured).channels = s.channels ∧
    (State.confirm s measured).faults = s.faults ∧
    (State.confirm s measured).store = s.store ∧
    (State.confirm s measured).free = s.free ∧
    (State.confirm s measured).pending = s.pending ∧
    (State.confirm s measured).tape = s.tape := by
  generalize h : State.confirm s measured = r
  unfold State.confirm at h
  (repeat' split at h) <;> subst h <;> simp

@[simp] theorem State.stepOk_frame (s : State) (measured : Nat) :
    (State.stepOk s measured).admission = s.admission ∧
    (State.stepOk s measured).planner = s.planner ∧
    (State.stepOk s measured).gauge = s.gauge ∧
    (State.stepOk s measured).cycle = s.cycle ∧
    (State.stepOk s measured).infeed = s.infeed ∧
    (State.stepOk s measured).jogger = s.jogger ∧
    (State.stepOk s measured).arbiter = s.arbiter ∧
    (State.stepOk s measured).inputs = s.inputs ∧
    (State.stepOk s measured).channels = s.channels ∧
    (State.stepOk s measured).faults = s.faults ∧
    (State.stepOk s measured).store = s.store ∧
    (State.stepOk s measured).free = s.free ∧
    (State.stepOk s measured).pending = s.pending ∧
    (State.stepOk s measured).tape = s.tape := by
  generalize h : State.stepOk s measured = r
  unfold State.stepOk at h
  (repeat' split at h) <;> subst h <;> simp

@[simp] theorem State.jogOk_frame (s : State) :
    (State.jogOk s).link = s.link ∧
    (State.jogOk s).jobs = s.jobs ∧
    (State.jogOk s).admission = s.admission ∧
    (State.jogOk s).planner = s.planner ∧
    (State.jogOk s).bankA = s.bankA ∧
    (State.jogOk s).bankB = s.bankB ∧
    (State.jogOk s).runner = s.runner ∧
    (State.jogOk s).gauge = s.gauge ∧
    (State.jogOk s).cycle = s.cycle ∧
    (State.jogOk s).infeed = s.infeed ∧
    (State.jogOk s).arbiter = s.arbiter ∧
    (State.jogOk s).inputs = s.inputs ∧
    (State.jogOk s).channels = s.channels ∧
    (State.jogOk s).faults = s.faults ∧
    (State.jogOk s).store = s.store ∧
    (State.jogOk s).free = s.free ∧
    (State.jogOk s).pending = s.pending ∧
    (State.jogOk s).tape = s.tape := by
  generalize h : State.jogOk s = r
  unfold State.jogOk at h
  (repeat' split at h) <;> subst h <;> simp

@[simp] theorem State.dropJogFailed_frame (s : State) :
    (State.dropJogFailed s).jobs = s.jobs ∧
    (State.dropJogFailed s).admission = s.admission ∧
    (State.dropJogFailed s).planner = s.planner ∧
    (State.dropJogFailed s).bankA = s.bankA ∧
    (State.dropJogFailed s).bankB = s.bankB ∧
    (State.dropJogFailed s).runner = s.runner ∧
    (State.dropJogFailed s).gauge = s.gauge ∧
    (State.dropJogFailed s).cycle = s.cycle ∧
    (State.dropJogFailed s).infeed = s.infeed ∧
    (State.dropJogFailed s).jogger = s.jogger ∧
    (State.dropJogFailed s).arbiter = s.arbiter ∧
    (State.dropJogFailed s).inputs = s.inputs ∧
    (State.dropJogFailed s).channels = s.channels ∧
    (State.dropJogFailed s).store = s.store ∧
    (State.dropJogFailed s).free = s.free ∧
    (State.dropJogFailed s).pending = s.pending ∧
    (State.dropJogFailed s).tape = s.tape := by
  unfold State.dropJogFailed
  split <;> simp

end Sys2Proof.Machine
end

