-- ==== Sys2Proof/Laws/Replies.lean ====
section
/-! SUPPORT. What offering a notice, serving a request and answering it do to the Cell Link. -/
namespace Sys2Proof.Machine

@[simp] theorem State.notify_link (s : State) (n : Notice) : (s.notify n).link = s.link.offer n := rfl

@[simp] theorem State.await_link (s : State) (w : WaitFor) : (s.await w).link = s.link.offer (.wait w) := rfl

@[simp] theorem State.dequeue_link (s : State) :
    s.dequeue.link = { s.link with requests := s.link.requests.tail } := rfl

@[simp] theorem State.answer_link (s : State) (f : Frame) (st : Status) (n : Nat) (d : List Byte) :
    (s.answer f st n d).link = { s.link with replies := s.link.replies ++ [⟨f.kind, f.tag, st, n, d⟩] } := rfl

@[simp] theorem State.dequeue_answer (s : State) (f : Frame) (st : Status) (n : Nat) (d : List Byte) :
    s.dequeue.answer f st n d = s.setLink (s.link.replied f st n d) := rfl

/-- An offer touches the notice queue, its number, the modes and the overflow indicator alone. -/
@[simp] theorem Link.offer_frame (l : Link) (n : Notice) :
    (l.offer n).rx = l.rx ∧ (l.offer n).requests = l.requests ∧ (l.offer n).replies = l.replies ∧ (l.offer n).tx = l.tx ∧
      (l.offer n).txTimer = l.txTimer ∧ (l.offer n).restart = l.restart ∧
      (l.offer n).restartDeferred = l.restartDeferred ∧ (l.offer n).line = l.line := by
  generalize h : l.offer n = r
  unfold Link.offer at h
  (repeat' split at h) <;> subst h <;> simp [Link.enqueue, Link.disarm] <;> split <;> simp

/-- An offer does not look at the requests. -/
theorem Link.offer_requests (l : Link) (n : Notice) (x : List Frame) :
    ({ l with requests := x } : Link).offer n = { l.offer n with requests := x } := by
  unfold Link.offer Link.enqueue Link.disarm
  (repeat' split) <;> simp_all

/-- An offer does not look at the replies. -/
theorem Link.offer_replies (l : Link) (n : Notice) (x : List Reply) :
    ({ l with replies := x } : Link).offer n = { l.offer n with replies := x } := by
  unfold Link.offer Link.enqueue Link.disarm
  (repeat' split) <;> simp_all

/-- A request of the right length is carried out on the state without its frame (R186). -/
theorem State.serve_right (s : State) (code : Byte) (len : Nat) (k : Frame → State → State) (f : Frame)
    (h : s.request code = some f) (hl : f.body.length = len) : s.serve code len k = k f s.dequeue := by
  simp [State.serve, h, hl]

/-- A request of the wrong length is answered RANGE field 0 (R186). -/
theorem State.serve_wrong (s : State) (code : Byte) (len : Nat) (k : Frame → State → State) (f : Frame)
    (h : s.request code = some f) (hl : f.body.length ≠ len) :
    s.serve code len k = s.setLink (s.link.replied f .range 0 []) := by
  simp [State.serve, h, hl]

/-- Without a servable frame of the KIND nothing happens (log 3). -/
theorem State.serve_none (s : State) (code : Byte) (len : Nat) (k : Frame → State → State)
    (h : s.request code = none) : s.serve code len k = s := by
  simp [State.serve, h]

end Sys2Proof.Machine
end

