-- ==== Sys2Proof/Laws/SafetyCmds.lean ====
section
/-! SUPPORT. What each shared operation of the safety inputs leaves alone: one lemma for each operation. -/
namespace Sys2Proof.Machine

@[simp] theorem State.breakCurtain_frame (s : State) :
    (State.breakCurtain s).link = s.link ∧
    (State.breakCurtain s).jobs = s.jobs ∧
    (State.breakCurtain s).admission = s.admission ∧
    (State.breakCurtain s).planner = s.planner ∧
    (State.breakCurtain s).bankA = s.bankA ∧
    (State.breakCurtain s).bankB = s.bankB ∧
    (State.breakCurtain s).infeed = s.infeed ∧
    (State.breakCurtain s).channels = s.channels ∧
    (State.breakCurtain s).faults = s.faults ∧
    (State.breakCurtain s).store = s.store ∧
    (State.breakCurtain s).free = s.free ∧
    (State.breakCurtain s).pending = s.pending ∧
    (State.breakCurtain s).tape = s.tape := by
  generalize h : State.breakCurtain s = r
  simp only [State.breakCurtain] at h
  (repeat' split at h) <;> subst h <;> simp

@[simp] theorem State.clearCurtain_frame (s : State) :
    (State.clearCurtain s).link = s.link ∧
    (State.clearCurtain s).jobs = s.jobs ∧
    (State.clearCurtain s).admission = s.admission ∧
    (State.clearCurtain s).planner = s.planner ∧
    (State.clearCurtain s).bankA = s.bankA ∧
    (State.clearCurtain s).bankB = s.bankB ∧
    (State.clearCurtain s).runner = s.runner ∧
    (State.clearCurtain s).cycle = s.cycle ∧
    (State.clearCurtain s).infeed = s.infeed ∧
    (State.clearCurtain s).arbiter = s.arbiter ∧
    (State.clearCurtain s).channels = s.channels ∧
    (State.clearCurtain s).faults = s.faults ∧
    (State.clearCurtain s).store = s.store ∧
    (State.clearCurtain s).free = s.free ∧
    (State.clearCurtain s).pending = s.pending ∧
    (State.clearCurtain s).tape = s.tape := by
  simp [State.clearCurtain]

end Sys2Proof.Machine
end

