-- ==== Sys2Proof/Laws/Specs.lean ====
section
/-! SUPPORT. What the shared operations with a definition in Safety.lean make of the part: the beginning of a step, of a reference
run, of an asked move and of jogging, the end of a cycle, and the latching of a fault of each class. -/
namespace Sys2Proof.Machine

/-- A step begins as R63 gives. -/
theorem State.startStep_begins (b : State) : StepBegins b b.startStep := by
  refine ⟨?_, ?_⟩
  · unfold State.startStep State.checkPlate State.setPhase
    simp only [State.theStep, State.liftBank]
    repeat' split
    all_goals simp [SameBut, State.await, State.notify]
  · intro t ht
    let r : Runner := { b.runner with state := .running, moveResult := none, takeOk := false, faultBack := false }
    have h2 : (b.setRunner r).theStep = some t := ht
    have on : (b.setRunner r).on .plateFitted = b.on .plateFitted := rfl
    simp only [State.startStep]
    simp only [r] at h2 on
    simp only [h2]
    cases e : t.action with
    | cut n d plate =>
      simp only [State.checkPlate]
      by_cases hp : plate = true ∧ b.on .plateFitted = false
      · simp [hp, on, State.setPhase, State.await, State.notify]
      · simp only [if_neg hp, on]
        cases plate <;> cases h3 : b.on .plateFitted <;> simp_all [State.setPhase]
    | turn k => simp [State.setPhase]
    | take d => simp [State.setPhase, State.await, State.notify]
    | _ => simp [State.setPhase]

/-- A reference run starts as R84 gives. -/
theorem State.startReference_starts (b : State) : ReferenceStarts b b.startReference.gauge := by
  unfold ReferenceStarts State.startReference Gauge.home Gauge.go
  cases h : b.on .curtain <;> cases h2 : b.on .homeSwitch <;>
    simp [refParkOf, Timer.start, Timer.halt, Timer.stopped, searchMs, stallMs]

/-- A move asked is taken as R86 gives; a FAULTED axis drops it. -/
theorem State.askMove_asked (b : State) (req : MoveReq) (h : b.gauge.state ≠ .faulted) : MoveAsked b (b.askMove req) req := by
  unfold MoveAsked State.askMove
  refine ⟨?_, ?_, ?_, ?_⟩
  · intro a; simp [a]
  · intro a; simp only [a]; exact State.startReference_starts _
  · intro a c; unfold Gauge.inMotion at a; cases e : b.gauge.state <;> simp_all
  · intro a c; unfold Gauge.inMotion at a; cases e : b.gauge.state <;> simp_all

/-- A cycle ends as R112 gives. -/
theorem State.endCycle_ends (s : State) : CycleEnds s s.endCycle := by
  unfold CycleEnds
  refine ⟨?_, ?_, ?_, ?_, ?_, ?_⟩
  · unfold State.endCycle State.takeCycleEnd State.stepAborted State.stepNotice State.release SameBut State.notify State.setPhase
    simp only [State.theStep, State.liftBank]
    repeat' split
    all_goals simp
  · have : s.cycle.ended = { s.cycle with
        state := .ready
        purpose := none
        entryPassed := false
        counted := false
        height := none
        faulted := false
        dwellTimer := Timer.stopped
        monitor := if s.cycle.monitor = .engaged then .spent else s.cycle.monitor
        windowTimer := if s.cycle.monitor = .engaged then Timer.stopped else s.cycle.windowTimer } := by
      unfold Cycle.ended Cycle.spend Cycle.setMonitor; split <;> simp [*]
    rw [← this]
    unfold State.endCycle
    split <;> simp [State.release]
  · unfold State.endCycle
    split <;> simp [State.release]
  · intro h
    unfold State.endCycle State.takeCycleEnd State.release
    split <;> simp [h]
  · intro h h2
    unfold State.endCycle State.takeCycleEnd State.release
    split <;> simp [h, h2, State.setPhase]
  · intro t l h h2 h3 h4
    unfold State.endCycle State.takeCycleEnd State.release State.stepAborted State.stepNotice
    have key : ∀ u : State, u.runner = s.runner → u.bankA = s.bankA → u.bankB = s.bankB → u.theStep = some t := by
      intro u a b c
      have : u.theStep = s.theStep := by
        unfold State.theStep State.liftBank State.bank; rw [a, b, c]
      rw [this, h3]
    split <;> simp [h, h2, State.setPhase, State.notify, MoveResult.zero] <;> rw [key _ (by rfl) (by rfl) (by rfl)] <;> simp [h4]

/-- The snapshot of a job with its bank is that bank's. -/
theorem State.snapshot_of_jobPaper (b : State) (l : LiftRec) (c : PaperClass) (h : JobPaper b l.job c) :
    b.snapshot l.job = c := by
  obtain ⟨e, bk, h1, h2, h3⟩ := h
  simp [State.snapshot, State.jobBank, h1, h2, h3]

/-- Jogging starts as R144 gives. -/
theorem State.startJog_starts (b : State) (i : Nat) (r : Bool) : JogStarts b (b.startJog i r) i r := by
  refine ⟨by simp [SameBut, State.startJog],
    ((b.jogger.lift.map fun l => b.snapshot l.job).getD PaperClass.default).jogLimit * 1000, ?_, ?_⟩
  · intro l c h h2; simp [h, State.snapshot_of_jobPaper b l c h2]
  · rfl

/-- Jogging starts at the class base as R144 gives. -/
theorem State.startBaseJog_starts (b : State) : BaseJogStarts b b.startBaseJog := by
  refine ⟨_, ?_, State.startJog_starts b _ _⟩
  intro l c h h2; simp [h, State.snapshot_of_jobPaper b l c h2]

/-! ### Faults -/

/-- A withdrawn or dropped request leaves the cycle as R106 gives. -/
theorem Cycle.withdrawn_eq (c : Cycle) : c.spend.backFromWait = c.withdrawn := by
  unfold Cycle.spend Cycle.backFromWait Cycle.withdrawn Cycle.spentTo Cycle.setMonitor ReturnState.cycleState
  cases h : c.returnState <;> cases h2 : c.monitor <;> simp [*]

/-- A motion is interrupted, and a gauge without one is left, as R95 gives. -/
theorem Gauge.interrupted_eq (g : Gauge) :
    (if g.inMotion = true then g.still g.restState else g) = g.interrupted := by
  unfold Gauge.interrupted Gauge.stands Gauge.still Gauge.restState
  rfl

/-- The gauge's interruption, what it makes of the Runner's ask, and its notice (R95). -/
theorem State.interruptGauge_eq (b : State) :
    SameBut [.link, .runner, .gauge] b b.interruptGauge ∧ b.interruptGauge.gauge = b.gauge.interrupted ∧
      b.interruptGauge.runner = { b.runner with asked := if b.gauge.inMotion then none else b.runner.asked } ∧
      ∀ (l : Link) (f : FaultSet), b.link = l.offer (.fault f) →
        b.interruptGauge.link =
          l.faulted f (if b.gauge.inMotion then b.gauge.refRun else none) b.gauge.valid b.gauge.position := by
  have e : b.interruptGauge =
      if b.gauge.inMotion then
        match b.gauge.refRun with
        | some r => ((b.setGauge (b.gauge.still b.gauge.restState)).setRunner { b.runner with asked := none }).refNotice r .aborted
        | none => (b.setGauge (b.gauge.still b.gauge.restState)).setRunner { b.runner with asked := none }
      else b := rfl
  refine ⟨?_, ?_, ?_, ?_⟩
  · rw [e]; cases b.gauge.inMotion <;> cases b.gauge.refRun <;> simp [SameBut, State.refNotice, State.notify]
  · rw [e, ← Gauge.interrupted_eq]
    cases b.gauge.inMotion <;> cases b.gauge.refRun <;> simp [State.refNotice, State.notify]
  · rw [e]; cases b.gauge.inMotion <;> cases b.gauge.refRun <;> simp [State.refNotice, State.notify]
  · intro l f hl
    unfold State.interruptGauge Link.faulted
    cases h : b.gauge.inMotion <;> cases h2 : b.gauge.refRun <;>
      simp [h, h2, hl, State.refNotice, State.notify, Gauge.still] <;> rfl

/-- The partial-cut marker at an abort or a stop (R10, R69). -/
theorem State.markPartial_eq (b : State) : b.markPartial = b.setRunner b.runnerMarked := by
  unfold State.markPartial State.runnerMarked
  cases b.cycle.entryPassed <;> cases b.runner.inPhase .cycle <;> rfl

/-- What a stop makes of the cycle and of the Runner's marker (R116). -/
theorem State.stopCycle_eq (b : State) :
    b.stopCycle =
      (b.setRunner (if b.cycle.moving = true ∧ b.cycle.counted = false then b.runnerMarked else b.runner)).setCycle
        (if b.cycle.moving then { b.cycle.spentTo .stopped with dwellTimer := Timer.stopped }
        else if b.cycle.state = .waitGrant then b.cycle.withdrawn
        else b.cycle) := by
  unfold State.stopCycle
  by_cases w : b.cycle.state = .waitGrant
  · have m : b.cycle.moving = false := by unfold Cycle.moving; simp [w]
    simp [w, m, ← Cycle.withdrawn_eq]; rfl
  · simp only [w, if_false]
    cases m : b.cycle.moving
    · simp; rfl
    · have sp : ∀ c : Cycle, { c.spend with state := .stopped, dwellTimer := Timer.stopped } =
          { c.spentTo .stopped with dwellTimer := Timer.stopped } := by
        intro c; unfold Cycle.spend Cycle.spentTo Cycle.setMonitor; cases h : c.monitor <;> simp [*]
      cases h : b.cycle.counted <;> simp [State.markPartial_eq, sp]
      rfl

/-- A STOP-class fault is latched as R171 and R173 give. -/
theorem State.latch_stop (b : State) (k : FaultKind) (h : b.faults.has k = false) (h2 : k.isStop = true) :
    StopBegins b (b.latch k) (b.faults.put k true) := by
  have e : b.latch k = (b.changeFaults (b.faults.put k true)).stopBegin := by simp [State.latch, h, h2]
  rw [e]
  generalize hc : (b.changeFaults (b.faults.put k true)).revoke.stopCycle = c
  have hs := hc.symm
  rw [State.stopCycle_eq] at hs
  obtain ⟨i1, i2, i3, i4⟩ := State.interruptGauge_eq c
  have cl : c.link = b.link.offer (.fault (b.faults.put k true)) := by rw [hs]; simp [State.revoke, State.changeFaults] <;> rfl
  have cg : c.gauge = b.gauge := by rw [hs]; simp [State.revoke, State.changeFaults]
  have cr : c.runner = (if b.cycle.moving = true ∧ b.cycle.counted = false then b.runnerMarked else b.runner) := by
    rw [hs]; simp [State.revoke, State.changeFaults, State.runnerMarked]
  have i4 := i4 _ _ cl
  simp only [SameBut] at i1
  simp only [cg, cr] at i2 i3 i4
  unfold State.stopBegin
  rw [hc]
  unfold StopBegins
  refine ⟨?_, ?_, ?_, ?_, ?_, ?_, ?_, ?_, ?_⟩
  · simp_all [SameBut, State.revoke, State.changeFaults]
  · simp_all [SameBut, State.revoke, State.changeFaults]
  · simp_all [SameBut, State.revoke, State.changeFaults]
  · simp_all [SameBut, State.revoke, State.changeFaults, State.notify, State.on]
  · simp_all [SameBut, State.revoke, State.changeFaults]
  · simp_all [SameBut, State.revoke, State.changeFaults]
  · simp_all [SameBut, State.revoke, State.changeFaults]
    (repeat' split) <;> first | rfl | (unfold State.runnerMarked; (repeat' split) <;> rfl)
  · simp_all [SameBut, State.revoke, State.changeFaults, Infeed.interrupt]
  · simp_all [SameBut, State.revoke, State.changeFaults, Jogger.stop]


/-- The cycle of an abort (R113, R115). -/
theorem State.abortCycle_eq (b : State) (f : Bool) (h : b.cycle.cutting = true) :
    b.abortCycle f = (b.setRunner b.runnerMarked).setCycle (b.cycle.aborted f) := by
  have sp : { b.cycle.spend with
      state := .abortReturn, faulted := b.cycle.faulted || f, dwellTimer := Timer.stopped } = b.cycle.aborted f := by
    unfold Cycle.aborted Cycle.spend Cycle.spentTo Cycle.setMonitor
    cases h : b.cycle.monitor <;> simp [*]
  simp [State.abortCycle, h, State.markPartial_eq, sp]

/-- What R67 and R115 make of Runner, cycle and Arbiter at a guillotine station fault. -/
theorem State.halts_eq (b : State) (c : State) (h : c = b.backToPrepare) :
    SameBut [.runner, .cycle, .arbiter] b (if c.cycle.purpose = some .cut then c.abortCycle true else c) ∧
      GuillotineHalts b (if c.cycle.purpose = some .cut then c.abortCycle true else c) b.runner.asked := by
  have ex : b.runner.inPhase .awaitStart = true → b.runner.inPhase .cycle = false := by
    unfold Runner.inPhase; cases b.runner.phase <;> simp_all
  have cw : b.cycle.cutting = true → b.cycle.state ≠ .waitGrant := by
    unfold Cycle.cutting; cases b.cycle.state <;> simp
  have nw : ∀ x : Cycle, x.withdrawn.cutting = false := by
    intro x; unfold Cycle.withdrawn Cycle.spentTo Cycle.cutting; cases x.returnState <;> simp
  subst h
  unfold State.backToPrepare State.withdrawCut State.withdrawCycle State.withdrawRequest Arbiter.put
  cases a : b.runner.inPhase .awaitStart
  · cases p : decide (b.cycle.purpose = some .cut)
    · simp_all [SameBut, GuillotineHalts]
    · cases q : b.cycle.cutting
      · simp_all [SameBut, GuillotineHalts, State.abortCycle]
      · simp_all [SameBut, GuillotineHalts, State.abortCycle_eq]
        unfold State.runnerMarked; split <;> simp
  · cases p : decide (b.cycle.purpose = some .cut)
    · simp_all [SameBut, GuillotineHalts]
    · cases q : b.cycle.cutting
      · by_cases w : b.cycle.state = .waitGrant
        · simp_all [SameBut, GuillotineHalts, State.abortCycle, Cycle.withdrawn_eq]
        · simp_all [SameBut, GuillotineHalts, State.abortCycle]
      · simp_all [SameBut, GuillotineHalts, State.abortCycle_eq, State.runnerMarked, Runner.inPhase]

/-- The halt of a state that differs in the Runner's ask and in what no halt looks at. -/
theorem GuillotineHalts.of_same (b c u : State) (a x : Option MoveAsk) (h : c.cycle = b.cycle) (h2 : c.arbiter = b.arbiter)
    (h3 : c.runner = { b.runner with asked := a }) (hh : GuillotineHalts c u x) : GuillotineHalts b u x := by
  unfold GuillotineHalts State.runnerMarked at *
  rw [h, h2, h3] at hh
  refine ⟨hh.1, hh.2.1, hh.2.2.trans ?_⟩
  unfold Runner.inPhase
  split <;> (try split) <;> simp_all

/-- A guillotine station fault that is not the axis's own is latched as R174 gives. -/
theorem State.latch_guillotine (b : State) (k : FaultKind) (h : b.faults.has k = false) (h2 : k.isGuillotine = true) :
    GuillotineFault b (b.latch k) (b.faults.put k true) := by
  have n : k.isStop = false := by cases k <;> simp_all [FaultKind.isStop, FaultKind.isGuillotine]
  have e : b.latch k = (b.changeFaults (b.faults.put k true)).guillotineBegin := by simp [State.latch, h, h2, n]
  rw [e]
  generalize hf : b.faults.put k true = f
  have eg : (b.changeFaults f).guillotineBegin =
      if (b.changeFaults f).interruptGauge.backToPrepare.cycle.purpose = some .cut then
        (b.changeFaults f).interruptGauge.backToPrepare.abortCycle true
      else (b.changeFaults f).interruptGauge.backToPrepare := rfl
  obtain ⟨i1, i2, i3, i4⟩ := State.interruptGauge_eq (b.changeFaults f)
  have i4 := i4 b.link f (by simp [State.changeFaults, State.notify])
  obtain ⟨j1, j2⟩ := State.halts_eq (b.changeFaults f).interruptGauge _ rfl
  rw [← eg] at j1 j2
  clear eg e
  generalize (b.changeFaults f).guillotineBegin = u at *
  generalize (b.changeFaults f).interruptGauge = c at *
  simp only [SameBut] at i1 j1
  simp at i1 j1
  simp [State.changeFaults, State.notify] at i1 i2 i3 i4
  have j3 := GuillotineHalts.of_same b c u _ _ i1.2.2.2.2.2.1 (by simp_all) i3 j2
  rw [i3] at j3
  refine ⟨?_, ?_, j1.1.trans i4, ?_, j3⟩
  · clear i3 i4 j2 j3; simp_all [SameBut]
  · clear i3 i4 j2 j3; simp_all
  · clear i3 i4 j2 j3; simp_all

/-- One of the axis's own faults is latched as R85, R93, R97 and R174 give. -/
theorem State.axisFault_faults (b : State) (k : FaultKind) (valid : Bool) (h : b.faults.has k = false)
    (h2 : k.isGuillotine = true) : AxisFault b (b.axisFault k valid) (b.faults.put k true) valid := by
  have h3 : (b.faultAxis valid).faults.has k = false := h
  obtain ⟨g1, g2, g3, g4, g5⟩ := State.latch_guillotine (b.faultAxis valid) k h3 h2
  have hm : (b.faultAxis valid).gauge.inMotion = false := rfl
  have hg : (b.faultAxis valid).gauge = { b.gauge.stands .faulted with valid := valid } := rfl
  have hfl : (b.faultAxis valid).faults = b.faults := rfl
  rw [hm] at g3 g5
  have j := GuillotineHalts.of_same b (b.faultAxis valid) _ none _ rfl rfl rfl g5
  have ga : (b.faultAxis valid).runner.asked = none := rfl
  unfold Gauge.interrupted at g4
  rw [hm] at g4
  unfold State.axisFault
  dsimp only
  generalize (b.faultAxis valid).latch k = u at *
  simp only [SameBut] at g1
  simp at g1
  cases hr : b.gauge.refRun
  · refine ⟨?_, ?_, ?_, ?_, ?_⟩ <;> simp_all [SameBut, State.faultAxis, Link.faulted]
  · refine ⟨?_, ?_, ?_, ?_, ?_⟩ <;> simp_all [SameBut, State.faultAxis, Link.faulted, State.refNotice, State.notify, Gauge.stands, GuillotineHalts]

/-- An Infeed station fault is latched as R125 and R174 give. -/
theorem State.latch_infeed (b : State) (k : FaultKind) (h : b.faults.has k = false) (h2 : k.isInfeed = true) :
    InfeedFault b (b.latch k) (b.faults.put k true) := by
  have n : k.isStop = false := by cases k <;> simp_all [FaultKind.isStop, FaultKind.isInfeed]
  have m : k.isGuillotine = false := by cases k <;> simp_all [FaultKind.isGuillotine, FaultKind.isInfeed]
  have e : b.latch k = (b.changeFaults (b.faults.put k true)).interruptInfeed := by simp [State.latch, h, h2, n, m]
  rw [e]
  unfold InfeedFault State.interruptInfeed State.leaveUnit State.withdrawRequest State.release Arbiter.put Infeed.interrupt
    State.changeFaults State.notify
  rcases ha : b.arbiter.holder with _ | q
  · simp [SameBut, ha]
  · cases q <;> simp [SameBut, ha, State.on]

end Sys2Proof.Machine
end

