-- ==== Sys2Proof/Laws/TableCmds.lean ====
section
/-! SUPPORT. What each shared operation of the table's switches leaves alone: one lemma for each operation. -/
namespace Sys2Proof.Machine

@[simp] theorem State.liftInPlace_frame (s : State) :
    (State.liftInPlace s).jobs = s.jobs ∧
    (State.liftInPlace s).admission = s.admission ∧
    (State.liftInPlace s).planner = s.planner ∧
    (State.liftInPlace s).gauge = s.gauge ∧
    (State.liftInPlace s).cycle = s.cycle ∧
    (State.liftInPlace s).infeed = s.infeed ∧
    (State.liftInPlace s).arbiter = s.arbiter ∧
    (State.liftInPlace s).inputs = s.inputs ∧
    (State.liftInPlace s).channels = s.channels ∧
    (State.liftInPlace s).faults = s.faults ∧
    (State.liftInPlace s).store = s.store ∧
    (State.liftInPlace s).free = s.free ∧
    (State.liftInPlace s).pending = s.pending ∧
    (State.liftInPlace s).tape = s.tape := by
  unfold State.liftInPlace
  split <;> simp

end Sys2Proof.Machine
end

