-- ==== Sys2Proof/Laws/Tick.lean ====
section
/-! SUPPORT. What each shared operation of the part's clock leaves alone: one lemma for each operation. -/
namespace Sys2Proof.Machine

@[simp] theorem State.takeByte_frame (s : State) :
    (State.takeByte s).jobs = s.jobs ∧
    (State.takeByte s).admission = s.admission ∧
    (State.takeByte s).planner = s.planner ∧
    (State.takeByte s).bankA = s.bankA ∧
    (State.takeByte s).bankB = s.bankB ∧
    (State.takeByte s).runner = s.runner ∧
    (State.takeByte s).gauge = s.gauge ∧
    (State.takeByte s).cycle = s.cycle ∧
    (State.takeByte s).infeed = s.infeed ∧
    (State.takeByte s).jogger = s.jogger ∧
    (State.takeByte s).arbiter = s.arbiter ∧
    (State.takeByte s).inputs = s.inputs ∧
    (State.takeByte s).channels = s.channels ∧
    (State.takeByte s).faults = s.faults ∧
    (State.takeByte s).store = s.store ∧
    (State.takeByte s).free = s.free ∧
    (State.takeByte s).tape = s.tape := by
  generalize h : State.takeByte s = r
  simp only [State.takeByte] at h
  (repeat' split at h) <;> subst h <;> simp

@[simp] theorem State.sampleInputs_frame (s : State) (raw : Switch → Bool) :
    (State.sampleInputs s raw).link = s.link ∧
    (State.sampleInputs s raw).jobs = s.jobs ∧
    (State.sampleInputs s raw).admission = s.admission ∧
    (State.sampleInputs s raw).planner = s.planner ∧
    (State.sampleInputs s raw).bankA = s.bankA ∧
    (State.sampleInputs s raw).bankB = s.bankB ∧
    (State.sampleInputs s raw).runner = s.runner ∧
    (State.sampleInputs s raw).gauge = s.gauge ∧
    (State.sampleInputs s raw).cycle = s.cycle ∧
    (State.sampleInputs s raw).infeed = s.infeed ∧
    (State.sampleInputs s raw).jogger = s.jogger ∧
    (State.sampleInputs s raw).arbiter = s.arbiter ∧
    (State.sampleInputs s raw).channels = s.channels ∧
    (State.sampleInputs s raw).faults = s.faults ∧
    (State.sampleInputs s raw).store = s.store ∧
    (State.sampleInputs s raw).free = s.free ∧
    (State.sampleInputs s raw).pending = s.pending ∧
    (State.sampleInputs s raw).tape = s.tape := by
  simp [State.sampleInputs]

@[simp] theorem State.runTimes_frame (s : State) :
    (State.runTimes s).jobs = s.jobs ∧
    (State.runTimes s).admission = s.admission ∧
    (State.runTimes s).bankA = s.bankA ∧
    (State.runTimes s).bankB = s.bankB ∧
    (State.runTimes s).runner = s.runner ∧
    (State.runTimes s).inputs = s.inputs ∧
    (State.runTimes s).channels = s.channels ∧
    (State.runTimes s).faults = s.faults ∧
    (State.runTimes s).free = s.free ∧
    (State.runTimes s).pending = s.pending ∧
    (State.runTimes s).tape = s.tape := by
  simp [State.runTimes]

end Sys2Proof.Machine
end

