-- ==== Sys2Proof/WellFormed.lean ====
section
/-! DEFINITION. Which commands the world can send: readings inside their channels' ranges (R167), a frame body of at most
240 bytes (R183), and a first sample that names each input once. A command outside these runs all the same (log 34); a
statement may ask for them. -/
namespace Sys2Proof

/-- Each input is named once, and E_STOP by its two channels only (R164). -/
def Contacts.wf (c : Contacts) : Bool := decide c.active.Nodup && !c.active.contains .eStop

/-- A command whose operands lie in the ranges the manual gives them. -/
def Instr.wf (i : Instr) : Bool :=
  match i with
  | .powerOnReset contacts _ => contacts.wf
  | .frameReceived _ _ _ body _ => body.length ≤ 240
  | .clear v | .resetBtn v => v.pileTop ≤ 20000
  | .stepOk w => w ≤ 160000
  | .clampPressureActive h | .clampBottom h | .entryPoint h => h ≤ 20000
  | .pilePresentActive p => p ≤ 20000
  | .motionDone _ _ p => p ≤ 20000
  | .gapTimeout | .frameSent | .requestUnknown | .submit | .withdraw | .jobInfo | .lineInfo | .hold | .resume
  | .admitLevel | .reference | .classSet | .classGet | .constSet _ | .constGet | .noticeMode | .rearm | .restart
  | .storeWriteComplete | .planDone | .planRefused | .eStopOpen | .eStopReleased | .curtainBroken | .curtainClear
  | .gaugeCurtainClearExpiry | .pusherCurtainClearExpiry | .handPress _ | .handRelease _ | .windowExpiry | .jogOk _
  | .homeSwitchActive | .encoderStep _ | .settleExpiry | .searchLimitExpiry | .encoderStall | .clampPressureInactive
  | .dwellExpiry | .knifeBottomActive | .knifeTopActive | .clampTopActive | .plateFittedActive | .plateFittedInactive
  | .frontClearActive | .loadInPlaceActive | .loadInPlaceInactive | .pilePresentInactive | .reamHeldInactive
  | .motionTimerExpiry _ | .pusherHomeActive | .edgeScanEnd _ | .jogTimerExpiry | .transferTimerExpiry
  | .hydReadyActive | .hydReadyInactive | .lenAbove240 => true

end Sys2Proof
end

