-- ==== Sys2Proof/Tests/Slice0.lean ====
section
/-! SUPPORT. Small tests: the well-formedness checks, values the manual works out, single commands on small states, and for every
statement with hypotheses a witness that meets them. -/
namespace Sys2Proof.Tests

open Sys2Proof Sys2Proof.Machine

-- One theorem after another: each evaluation by the kernel would otherwise take a thread of its own.
set_option Elab.async false

/-! ### Helpers -/

/-- The reset state with one request frame waiting. -/
def asked (kind : Byte) (body : List Byte) : State :=
  State.reset.setLink { State.reset.link with requests := [⟨kind, 7#8, body⟩] }

/-- The frame of `asked`. -/
def frameOf (kind : Byte) (body : List Byte) : Frame := ⟨kind, 7#8, body⟩

/-- The state after a command; the state before it where there is none. -/
def after (c : Instr) (s : State) : State :=
  match exec c s with
  | .next t => t
  | .fault _ => s
  | .refused _ => s

/-- The job of the worked example of section 3.8. -/
def job : JobRecord :=
  ⟨17, 3, 2, .grip, .up, 45000, 65000, 4, 10000, 600, 4, 15000, 800, 1200, 1000, 1000, none, false⟩

/-- The default planning constants (R40, R177). -/
def planConsts : PlanConsts := ⟨300, 3000, 1200, 115000, 115000⟩

/-- The entry of `job` in a state, with a bank. -/
def entryIn (st : JobState) (bk : Option BankId) : JobEntry := ⟨job, st, bk, 0, none⟩

/-- The inputs with some of them active. -/
def lit (xs : List Switch) (s : State) : State := s.setInputs (seedInputs fun x => xs.contains x)

/-- A short list of two steps: a CUT at 40,000 and a TURN_CW. -/
def twoSteps (d : Disposition) : List CutStep :=
  [⟨0, 0, 40000, 65000, .cut 40000 d false⟩, ⟨1, 0, 65000, 40000, .turn .cw⟩]

/-- A bank in use with some steps. -/
def bankWith (steps : List CutStep) : Bank := ⟨some 17, .inUse, steps.length, steps, some ⟨10, 4, 300, 2, 20⟩⟩

/-- A Working Stack of `job`. -/
def stack : StackRec := ⟨17, 1, 0, 45000, 65000, 1000, ⟨.grip, .up⟩, false⟩

/-- The Runner at the step `i` of bank A, in a phase. -/
def runnerAt (i : Nat) (p : StepPhase) : Runner :=
  { Runner.reset with state := .running, lift := some ⟨17, 1, .a⟩, stepIndex := i, phase := some p, working := some stack }

/-- The part with the Runner at a step of a bank. -/
def atStep (steps : List CutStep) (i : Nat) (p : StepPhase) : State :=
  (((State.reset.setJobs [entryIn .running (some .a)]).setBankA (bankWith steps)).setRunner (runnerAt i p))

/-- The cycle in a state, for a cut, with both hands on. -/
def cutting (st : CycleState) : Cycle :=
  { Cycle.reset true with state := st, purpose := some .cut, monitor := .engaged, height := some 900 }

/-- The gauge in a motion. -/
def gaugeIn (st : AxisState) (ph : Option MovePhase) (p : Int) (m : Option Move) : Gauge :=
  { Gauge.reset true p 3000 with state := st, phase := ph, move := m, stallTimer := ⟨true, 5, 200⟩ }

/-- A CUT move to 40,000. -/
def move : Move := ⟨some (.cut 40000 1000 10), 40000, some 40200, false, 200, 115000, 3, 150⟩

/-- A reference run with the default constants. -/
def refRun : RefRun := ⟨118000, 115000, 200, 3, 150⟩

/-! ### Well-formedness: one ill-formed command for each check -/

theorem test_wf_reset_doubled : (Instr.powerOnReset ⟨[.handL, .handL], ⟨false, false⟩⟩ ⟨0, 0, 0, 0⟩).wf = false := by decide +kernel
theorem test_wf_reset_stop_input : (Instr.powerOnReset ⟨[.eStop], ⟨true, true⟩⟩ ⟨0, 0, 0, 0⟩).wf = false := by decide +kernel
theorem test_wf_body : (Instr.frameReceived false 1 1 (List.replicate 241 0) 0).wf = false := by decide +kernel
theorem test_wf_clear : (Instr.clear ⟨true, true, 20001⟩).wf = false := by decide +kernel
theorem test_wf_reset_btn : (Instr.resetBtn ⟨true, true, 20001⟩).wf = false := by decide +kernel
theorem test_wf_step_ok : (Instr.stepOk 160001).wf = false := by decide +kernel
theorem test_wf_clamp_pressure : (Instr.clampPressureActive 20001).wf = false := by decide +kernel
theorem test_wf_clamp_bottom : (Instr.clampBottom 20001).wf = false := by decide +kernel
theorem test_wf_entry_point : (Instr.entryPoint 20001).wf = false := by decide +kernel
theorem test_wf_pile : (Instr.pilePresentActive 20001).wf = false := by decide +kernel
theorem test_wf_motion_done : (Instr.motionDone .lift true 20001).wf = false := by decide +kernel
theorem test_wf_bounds_admitted :
    (Instr.powerOnReset ⟨[.handL, .handR], ⟨true, false⟩⟩ ⟨-1, 0, 10000000000, 10000000001⟩).wf = true ∧ (Instr.stepOk 160000).wf = true ∧
      (Instr.frameReceived true 1 1 (List.replicate 240 0) 0).wf = true := by decide +kernel

/-! ### No word spells a command (the table gives no row any bits) -/

theorem test_decode_none : decodeTableWord 16 0x4303 = none ∧ decodeTableWord 0 0 = none := by decide +kernel
theorem test_fetch_word_unchanged : State.reset.withFetchWord 16 0x4303 = State.reset := by decide +kernel

/-! ### Values the manual works out -/

/-- R183: the CRC of the nine characters 1 to 9. -/
theorem test_crc_sample : crcOf [0x31#8, 0x32#8, 0x33#8, 0x34#8, 0x35#8, 0x36#8, 0x37#8, 0x38#8, 0x39#8] = 0x4B37#16 := by
  decide +kernel

/-- Section 3.8: the worked example has 56 steps, 40 cuts, 16 outputs and 25 waste take-aways. -/
theorem test_worked_plan :
    (match planResult job planConsts with
      | .done steps => decide ((steps.length, countCuts steps, countOutputs steps, countWaste steps) = (56, 40, 16, 25))
      | .refused _ => false) = true := by decide +kernel

/-- R44: the checks of a layout that cannot be cut. -/
theorem test_refused_plans :
    planResult { job with gl := 200 } planConsts = .refused .sliver ∧
      planResult { job with trimGrip := 4000 } planConsts = .refused .noFit ∧
      planResult { job with sheetW := 120000 } planConsts = .refused .oversize ∧
      planResult { job with sheetL := 8600, pl := 1000, trimGrip := 800 } planConsts = .refused .tooNarrow ∧
      planResult { job with nr := 18, pl := 5000, sheetL := 103400 } planConsts = .refused .asideDepth := by decide +kernel

/-- R182: a power-on with nothing active and every channel at 0 is the reset state. -/
theorem test_power_on_is_reset :
    after (.powerOnReset ⟨[], ⟨false, false⟩⟩ ⟨0, 0, 0, 0⟩) State.reset = State.reset := by decide +kernel

/-- R164, R169: a power-on with one channel of E_STOP open leaves ESTOP latched, and nothing else. -/
theorem test_power_on_open_stop :
    (after (.powerOnReset ⟨[], ⟨false, true⟩⟩ ⟨0, 0, 0, 0⟩) State.reset).faults = { FaultSet.none with eStop := true } := by
  decide +kernel

/-- R164: E_STOP is open when either channel is open, and released when both are closed. -/
theorem test_e_stop_channels :
    eStopRaw ⟨true, false⟩ = true ∧ eStopRaw ⟨false, true⟩ = true ∧ eStopRaw ⟨false, false⟩ = false := by decide +kernel

/-- R167: 0 V reads 0, 5 V half the range, 10 V the top; below and above the range the reading is at its end. -/
theorem test_conversion :
    convert 20000 0 = 0 ∧ convert 20000 (-1) = 0 ∧ convert 20000 5000000000 = 10000 ∧ convert 20000 10000000000 = 20000 ∧
      convert 160000 10000000001 = 160000 := by decide +kernel

/-- R165: with NF 3 the third sample in a row decides the change, and one that returns clears the counter. -/
theorem test_stable_count :
    ((InputState.seeded false).sample true 3 false true).due = false ∧
      ((((InputState.seeded false).sample true 3 false true).sample true 3 false true).sample true 3 false true).due = true ∧
      (((InputState.seeded false).sample true 3 false true).sample false 3 false true).count = 0 := by decide +kernel

/-- R165: a change is no event before a sample has decided it, whatever NF the store then holds. -/
theorem test_no_change_between_samples :
    changeEvent (State.reset.setInputs (Inputs.quiet.put .handL ⟨true, false, 14, false⟩)) = none := by decide +kernel

/-- R87 with k = 10 and H = 1,000: the offset is 10. -/
theorem test_draw_offset : drawOffset Consts.default 10 1000 = 10 ∧ drawOffset Consts.default 40 2000 = 66 := by decide +kernel

/-- Chapter 5, compensated targets on lift 1 and the limits: k = 12 and Kc = -5 on the defaults. -/
theorem test_cut_targets :
    cutTarget { Consts.default with kc := -5 } false 43000 984 12 = (43007, false) ∧
      cutTarget { Consts.default with kc := -5 } false 33000 951 12 = (33006, false) ∧
      cutTarget { Consts.default with kc := -5 } false 63400 948 12 = (63406, false) ∧
      cutTarget { Consts.default with kc := 250 } false 114700 1500 40 = (115000, true) ∧
      cutTarget Consts.default false 80000 1800 40 = (80066, false) := by decide +kernel

/-- Chapter 5, the park after TURN_CCW: from 100.06 to 655.00 by way of 657.00. -/
theorem test_park_overshoot :
    parkTarget Consts.default false 65500 = 65500 ∧ overshootPoint 10006 65500 200 115000 = some 65700 := by decide +kernel

/-- Section 7.3, the worked division: twelve lifts of 11,830 tenths, then eleven of 10,839. -/
theorem test_division :
    (pileAtIntake 1650 job 11830).count = 12 ∧ (pileAtIntake 1650 job 11830).aim = 986 ∧
      (pileAtIntake 1650 job 11830).extra = 10 ∧
      (({ pileAtIntake 1650 job 11830 with remaining := 10839, picked := 1 } : PileRec).redivide.count,
          ({ pileAtIntake 1650 job 11830 with remaining := 10839, picked := 1 } : PileRec).redivide.base,
          ({ pileAtIntake 1650 job 11830 with remaining := 10839, picked := 1 } : PileRec).redivide.extra) = (12, 985, 4) := by decide +kernel

/-- A pile after a pick that left `rest` (R132). -/
def picked (p : PileRec) (rest : Nat) : PileRec := ({ p with remaining := rest, picked := p.picked + 1 } : PileRec).redivide

/-- The short pile of section 7.3 after its picks. -/
def shortPile (rests : List Nat) : PileRec := rests.foldl picked (pileAtIntake 1650 job 3000)

/-- Section 7.3, the short pile: growth at 2,040, one added at 58, exhausted at 3. -/
theorem test_short_pile :
    ((shortPile []).count, (shortPile []).aim) = (3, 1000) ∧
      ((shortPile [2040]).count, (shortPile [2040]).aim) = (4, 680) ∧ (shortPile [2040, 1356]).aim = 678 ∧
      (shortPile [2040, 1356, 679]).aim = 679 ∧
      ((shortPile [2040, 1356, 679, 58]).count, (shortPile [2040, 1356, 679, 58]).aim) = (5, 58) ∧
      (shortPile [2040, 1356, 679, 58, 3]).exhausted = true ∧ (shortPile [2040, 1356, 679, 58, 3]).picked = 5 := by
  decide +kernel

/-- Section 7.3: a fixed count of 4 on 6,800 tenths becomes 5. -/
theorem test_fixed_count :
    (pileAtIntake 1650 { job with fixedCount := some 4 } 6800).count = 5 ∧
      (pileAtIntake 1650 { job with fixedCount := some 4 } 6800).base = 1360 := by decide +kernel

/-- Section 9.1, aging: at 5.0 s CUT goes before TURN at 4.5 s; at 7.5 s TURN at 7.0 s goes before LIFT. -/
theorem test_aging :
    (⟨.free, none, some 2500, some 0, some 4500⟩ : Arbiter).choose 6000 = some .cut ∧
      (⟨.free, none, none, some 2500, some 7000⟩ : Arbiter).choose 6000 = some .turn := by decide +kernel

/-! ### Single commands on small states -/

/-- R121, R105: the second press of an engagement in AWAIT_START raises a CUT request, which is granted at once. -/
theorem test_engage :
    (after (.handPress .right)
      (lit [.handL, .knifeTop, .clampTop, .hydReady]
        ((((atStep (twoSteps .output) 0 .awaitStart).setArbiter ⟨.free, none, none, none, none⟩).setCycle
          { Cycle.reset true with monitor := .one })))).cycle.state = .clamping := by decide +kernel

/-- R113: a hand released in STROKE_DOWN aborts the cut. -/
theorem test_release_aborts :
    (after (.handRelease .left)
      (lit [.handL, .handR, .clampPressure] (State.reset.setCycle (cutting .strokeDown)))).cycle.state = .abortReturn := by decide +kernel

/-- A cut of 40,000 at the moment the knife is down. -/
def knifeDown : State := (atStep (twoSteps .waste) 0 .cycle).setCycle (cutting .strokeDown)

/-- R111, R9: the stroke counted at 40,000 leaves 5,000 in front and 40,000 on the table. -/
theorem test_stroke_counted :
    (after .knifeBottomActive knifeDown).runner.working.map StackRec.along = some 40000 ∧
      (after .knifeBottomActive knifeDown).runner.cutoff.map (fun c => (c.stack.along, c.stack.height, c.disp)) =
        some (5000, 900, .waste) ∧
      (after .knifeBottomActive knifeDown).runner.tally.strokes = 1 := by decide +kernel

/-- R81: one step rearward and one forward. -/
theorem test_encoder :
    (after (.encoderStep .rearward) State.reset).gauge.position = 1 ∧
      (after (.encoderStep .forward) State.reset).gauge.position = -1 := by decide +kernel

/-- R102: no direction shows before the first travel is commanded; a move commanded then travels rearward. -/
theorem test_direction_after_reset :
    State.reset.gaugeDirection = none ∧ (State.reset.startMove (.park 4000)).gaugeDirection = some .rearward ∧
      ((lit [.curtain] State.reset).startMove (.park 4000)).gaugeDirection = none := by decide +kernel

/-- R95: an interrupted motion leaves the corrective count at 0. -/
theorem test_interrupted_corrective :
    (after .eStopOpen (State.reset.setGauge { gaugeIn .moving (some .approach) 40001 (some move) with corrective := 2 })).gauge.corrective =
      0 := by decide +kernel

/-- R166: ESTOP is latched at the opening, and its release leaves it. -/
theorem test_e_stop : (after .eStopReleased (after .eStopOpen State.reset)).faults.eStop = true := by decide +kernel

/-- R78: STEP_OK takes the Runner out of CLEARANCE when the table is empty and the cycle READY. -/
theorem test_clearance :
    (after (.stepOk 0) (lit [.frontClear] (State.reset.setCycle (Cycle.reset true)))).runner.state = .idle ∧
      (after (.stepOk 0) (lit [.frontClear] State.reset)).runner.state = .clearance := by decide +kernel

/-- R158: HYD_READY makes the unit FREE and its loss UNAVAILABLE. -/
theorem test_hyd_ready :
    (after .hydReadyActive State.reset).arbiter.unit = .free ∧
      (after .hydReadyInactive (after .hydReadyActive State.reset)).arbiter.unit = .unavailable := by decide +kernel

/-- R21: a SUBMIT of the worked example joins the empty table and its planning starts at once (R26). -/
theorem test_submit :
    (after .submit (asked 0x01#8 (bodyOfJob job))).jobs.map (fun e => (e.record, e.state, e.bank)) =
      [(job, .planning, some .a)] := by decide +kernel

/-! ### Witnesses: states and operands that meet a statement's hypotheses, clause by clause -/

theorem witness_StepRunsTheFrontCommand : (State.reset.setPending [.hold, .resume]).pending = .hold :: [.resume] := by decide +kernel

/-- The reset state with its link changed. -/
def linked (f : Link → Link) : State := State.reset.setLink (f State.reset.link)

theorem witness_IdleStepServesOrTicks :
    State.reset.pending = [] ∧ gapEvent State.reset = none ∧ State.reset.link.line = [] ∧ ownEvent State.reset = none ∧
      (linked fun l => { l with rx := ⟨.body, false, [1, 2, 9], [], [], ⟨true, 11, 11⟩⟩ }).link.rx.gap.due = true ∧
      (linked fun l => { l with rx := ⟨.body, false, [1, 2, 9], [], [], ⟨true, 11, 11⟩⟩ }).link.rx.state ≠ .hunt ∧
      (linked fun l => { l with line := [⟨0xC3#8, false⟩] }).link.line = ⟨0xC3#8, false⟩ :: [] ∧
      (linked fun l => { l with line := [⟨0xC3#8, false⟩] }).link.rx.gap.due = false ∧
      ownEvent (State.reset.setCycle { Cycle.reset true with monitor := .one, windowTimer := ⟨true, 500, 500⟩ }) = some .windowExpiry ∧
      (asked 0x77#8 []).pending = [] ∧ gapEvent (asked 0x77#8 []) = none ∧ (asked 0x77#8 []).link.line = [] ∧
      (asked 0x77#8 []).link.requests = frameOf 0x77#8 [] :: [] ∧ (asked 0x77#8 []).link.serving = true := by decide +kernel

theorem witness_FramesReadBack : (List.replicate 240 (0xC3#8 : Byte)).length ≤ 240 ∧ ([] : List Byte).length ≤ 240 := by decide +kernel

/-- A receiver in a state, with what it has of the frame. -/
def rx (st : RxState) (header body check : List Byte) : Receiver := ⟨st, true, header, body, check, ⟨true, 0, 11⟩⟩

theorem witness_ReceiverTakesEachByte :
    Receiver.hunting.state = .hunt ∧ (⟨0xC3#8, false⟩ : RxByte).byte = 0xC3#8 ∧ (⟨0xC2#8, false⟩ : RxByte).byte ≠ 0xC3#8 ∧
      (⟨0xC3#8, true⟩ : RxByte).error = true ∧ (rx .header [1] [] []).header.length < 2 ∧
      (rx .header [1, 2] [] []).state = .header ∧ (rx .header [1, 2] [] []).header.length = 2 ∧
      (240#8 : Byte).toNat ≤ 240 ∧ 240 < (241#8 : Byte).toNat ∧ (0#8 : Byte).toNat = 0 ∧
      (rx .body [1, 2, 1] [] []).state = .body ∧ (rx .check [1, 2, 0] [] [5]).state = .check ∧
      (rx .check [1, 2, 0] [] []).check.length = 0 ∧ (rx .check [1, 2, 0] [] [5]).check.length = 1 ∧ (rx .check [1, 2, 0] [] [5]).header.length = 3 := by decide +kernel

theorem witness_FrameReceivedIsOffered :
    (linked fun l => { l with rx := rx .header [1] [] [] }).link.rx.state ≠ .hunt ∧
      (linked fun l => { l with rx := rx .header [1] [] [] }).link.rx.state = .header := by decide +kernel

theorem witness_TransmitterChoosesNext :
    State.reset.link.restartSent = false ∧ State.reset.link.tx ≠ .idle ∧
      (linked fun l => { l with tx := .reply, replies := [⟨4, 1, .ok, 0, []⟩] }).link.restartSent = false ∧
      (linked fun l => { l with tx := .reply, replies := [⟨4, 1, .ok, 0, []⟩] }).link.tx ≠ .idle := by decide +kernel

/-- The link with a mode of the class WAIT and a number of notices. -/
def linkAt (m : NoticeMode) (armed : Bool) (n : Nat) : Link :=
  { State.reset.link with
    notices := List.replicate n ⟨0, .wait .jogOk⟩
    modes := { NoticeModes.reset with wait := ⟨m, armed⟩ } }

theorem witness_NoticesJoinByMode :
    ((linkAt .off true 32).modes.get (Notice.wait .plate).cls).mode = .off ∧
      ((linkAt .once false 31).modes.get (Notice.wait .plate).cls).armed = false ∧
      (linkAt .every true 32).notices.length = 32 ∧ ((linkAt .every true 32).modes.get (Notice.wait .plate).cls).mode = .every ∧
      (linkAt .once true 32).notices.length = 32 ∧ ((linkAt .once true 32).modes.get (Notice.wait .plate).cls).armed = true ∧
      (linkAt .every true 31).notices.length < 32 ∧ (linkAt .once true 31).notices.length < 32 ∧
      ((linkAt .once true 31).modes.get (Notice.wait .plate).cls).mode = .once := by decide +kernel

theorem witness_UnservableRequestsAreRefused :
    (asked 0x11#8 []).link.requests = frameOf 0x11#8 [] :: [] ∧ (asked 0x11#8 []).link.serving = true ∧
      16 < (0x11#8 : Byte).toNat ∧ (asked 0#8 []).link.serving = true ∧ (0#8 : Byte).toNat = 0 ∧
      (asked 0x01#8 (List.replicate 35 0)).request 0x01#8 = some (frameOf 0x01#8 (List.replicate 35 0)) ∧
      (asked 0x02#8 [1]).request 0x02#8 = some (frameOf 0x02#8 [1]) ∧ (asked 0x06#8 [1]).request 0x06#8 = some (frameOf 0x06#8 [1]) ∧
      (asked 0x07#8 []).request 0x07#8 = some (frameOf 0x07#8 []) ∧ (asked 0x08#8 [1]).request 0x08#8 = some (frameOf 0x08#8 [1]) ∧
      (asked 0x03#8 [1]).request 0x03#8 = some (frameOf 0x03#8 [1]) ∧ (asked 0x04#8 [1]).request 0x04#8 = some (frameOf 0x04#8 [1]) ∧
      (asked 0x05#8 [1]).request 0x05#8 = some (frameOf 0x05#8 [1]) ∧ (asked 0x09#8 [1]).request 0x09#8 = some (frameOf 0x09#8 [1]) ∧
      (asked 0x0A#8 []).request 0x0A#8 = some (frameOf 0x0A#8 []) ∧ (asked 0x0B#8 []).request 0x0B#8 = some (frameOf 0x0B#8 []) ∧
      (asked 0x0C#8 []).request 0x0C#8 = some (frameOf 0x0C#8 []) ∧ (asked 0x0D#8 []).request 0x0D#8 = some (frameOf 0x0D#8 []) ∧
      (asked 0x0E#8 []).request 0x0E#8 = some (frameOf 0x0E#8 []) ∧ (asked 0x0F#8 []).request 0x0F#8 = some (frameOf 0x0F#8 []) ∧
      (asked 0x10#8 [1]).request 0x10#8 = some (frameOf 0x10#8 [1]) := by decide +kernel

/-- The job table with `n` entries numbered from `first`. -/
def table (first n : Nat) : List JobEntry :=
  (List.range n).map fun i => ⟨{ job with number := first + i }, .queued, none, 0, none⟩

theorem witness_SubmitAcceptsOrRefuses :
    ((asked 0x01#8 (bodyOfJob job)).setJobs (table 100 7)).request 0x01#8 = some (frameOf 0x01#8 (bodyOfJob job)) ∧
      (bodyOfJob job).length = 36 ∧ firstBadField 1650 (bodyOfJob job) = none ∧
      ((asked 0x01#8 (bodyOfJob job)).setJobs (table 100 7)).entry (jobOfBody (bodyOfJob job)).number = none ∧
      (table 100 7).length < 8 ∧ firstBadField 1650 (bodyOfJob { job with number := 0 }) = some 1 ∧
      (bodyOfJob { job with number := 0 }).length = 36 ∧
      ((asked 0x01#8 (bodyOfJob job)).setJobs (table 17 1)).request 0x01#8 = some (frameOf 0x01#8 (bodyOfJob job)) ∧
      (((asked 0x01#8 (bodyOfJob job)).setJobs (table 17 1)).entry (jobOfBody (bodyOfJob job)).number).isSome = true ∧
      ((asked 0x01#8 (bodyOfJob job)).setJobs (table 100 8)).entry (jobOfBody (bodyOfJob job)).number = none ∧
      8 ≤ (table 100 8).length := by decide +kernel

theorem witness_JobRecordRoundTrip : job.inRange 2000 = true ∧ ({ job with liftHeight := 2000, fixedCount := some 64 } : JobRecord).inRange 2000 = true := by
  decide +kernel

/-- A WITHDRAW of job 17 with the entry in a state. -/
def withdrawOf (st : JobState) (bk : Option BankId) : State := (asked 0x02#8 [17, 0]).setJobs [entryIn st bk]

theorem witness_WithdrawRemovesTheJob :
    (asked 0x02#8 [17, 0]).request 0x02#8 = some (frameOf 0x02#8 [17, 0]) ∧ ([17, 0] : List Byte).length = 2 ∧
      (asked 0x02#8 [17, 0]).entry (fieldAt [17, 0] 0 2) = none ∧
      (withdrawOf .planning (some .b)).entry (fieldAt [17, 0] 0 2) = some (entryIn .planning (some .b)) ∧
      (entryIn .called (some .a)).state ≠ .running ∧
      (withdrawOf .running (some .a)).entry (fieldAt [17, 0] 0 2) = some (entryIn .running (some .a)) := by decide +kernel

/-- A WITHDRAW of job 17 with its first lift at a cut that waits for the grant and its second in the Jogger. -/
def waitingCut : State :=
  (((withdrawOf .running (some .a)).setRunner (runnerAt 0 .awaitStart)).setCycle (cutting .waitGrant)).setJogger
    { State.reset.jogger with state := .jogging, lift := some ⟨17, 2, 900⟩ }

theorem witness_WithdrawClearsTheStations :
    (withdrawOf .running (some .a)).request 0x02#8 = some (frameOf 0x02#8 [17, 0]) ∧
      (withdrawOf .running (some .a)).entry (fieldAt [17, 0] 0 2) = some (entryIn .running (some .a)) ∧
      (withdrawOf .running (some .a)).runnerHolds 17 = false ∧
      ((withdrawOf .running (some .a)).setRunner (runnerAt 0 .positioning)).runnerHolds 17 = true ∧
      State.reset.jogger.holds 17 = false ∧
      ({ State.reset.jogger with state := .jogging, lift := some ⟨17, 2, 900⟩ } : Jogger).holds 17 = true ∧
      State.reset.infeed.turnerHolds 17 = false ∧
      ({ State.reset.infeed with turner := .ready, pile := some (pileAtIntake 1650 job 3000) } : Infeed).turnerHolds 17 = true ∧
      State.reset.infeed.liftHolds 17 = false ∧
      ({ State.reset.infeed with lift := .holding, held := some ⟨17, 1, 980⟩ } : Infeed).liftHolds 17 = true ∧
      waitingCut.request 0x02#8 = some (frameOf 0x02#8 [17, 0]) ∧ waitingCut.runnerHolds 17 = true ∧
      waitingCut.cycle.state = .waitGrant ∧ waitingCut.cycle.purpose = some .cut ∧ waitingCut.cycle.returnState = .ready ∧
      waitingCut.clearing 17 = [.jogger, .runner] ∧ State.reset.cycle.state ≠ .waitGrant := by decide +kernel

theorem witness_LineStatusIsLaidOut :
    (⟨.free, some .cut, some 6553599, none, some 0⟩ : Arbiter).cut = some 6553599 ∧ 6553599 < 6553600 := by decide +kernel

theorem witness_InfoRepliesReport :
    (asked 0x03#8 [17, 0]).request 0x03#8 = some (frameOf 0x03#8 [17, 0]) ∧
      (asked 0x04#8 []).request 0x04#8 = some (frameOf 0x04#8 []) ∧
      (asked 0x0B#8 [15]).request 0x0B#8 = some (frameOf 0x0B#8 [15]) ∧
      (asked 0x0D#8 [25]).request 0x0D#8 = some (frameOf 0x0D#8 [25]) ∧ Consts.default.get 25 = some 2 ∧
      Consts.default.get 26 = none := by decide +kernel

/-- The Runner held at a step. -/
def heldRunner (lastDone : Bool) : Runner :=
  { runnerAt 0 .prepare with state := .held, phase := none, hold := true, lastDone := lastDone }

theorem witness_HoldResumeAndAdmit :
    (asked 0x05#8 []).request 0x05#8 = some (frameOf 0x05#8 []) ∧ (asked 0x06#8 []).request 0x06#8 = some (frameOf 0x06#8 []) ∧
      (asked 0x06#8 []).runner.hold = false ∧ (heldRunner false).hold = true ∧ (heldRunner false).state = .held ∧
      (heldRunner false).firstOff = false ∧ (heldRunner false).lastDone = false ∧ (heldRunner true).lastDone = true ∧
      (heldRunner true).lift = some ⟨17, 1, .a⟩ ∧ (asked 0x07#8 [7]).request 0x07#8 = some (frameOf 0x07#8 [7]) ∧
      fieldAt [7] 0 1 ≤ 7 ∧ ¬fieldAt [8] 0 1 ≤ 7 := by decide +kernel

/-- A RESUME waiting with the Runner held at a step, or after the last one. -/
def resuming (lastDone : Bool) : State :=
  ((atStep (twoSteps .waste) 0 .prepare).setRunner (heldRunner lastDone)).setLink (asked 0x06#8 []).link

theorem witness_HoldResumeAndAdmit_held :
    (resuming false).request 0x06#8 = some (frameOf 0x06#8 []) ∧ (resuming false).runner.hold = true ∧
      (resuming false).runner.state = .held ∧ (resuming false).runner.firstOff = false ∧
      (resuming false).runner.lastDone = false ∧ (resuming false).theStep = some ⟨0, 0, 40000, 65000, .cut 40000 .waste false⟩ ∧
      (resuming true).request 0x06#8 = some (frameOf 0x06#8 []) ∧ (resuming true).runner.hold = true ∧
      (resuming true).runner.state = .held ∧ (resuming true).runner.lastDone = true ∧
      (resuming true).runner.lift = some ⟨17, 1, .a⟩ ∧ (resuming true).entry 17 = some (entryIn .running (some .a)) := by decide +kernel

theorem witness_ClearRemovesClearedFaults :
    (asked 0x08#8 []).request 0x08#8 = some (frameOf 0x08#8 []) ∧ ([] : List Byte).length = 0 ∧
      ({ FaultSet.none with
          eStop := State.reset.faults.eStop && State.reset.on .eStop
          hydPressure := State.reset.faults.hydPressure && !State.reset.on .hydReady
          transferTimeout := State.reset.faults.transferTimeout && !State.reset.on .loadInPlace && !State.reset.on .pusherHome } :
        FaultSet) = FaultSet.none := by decide +kernel

/-- A cycle that a stop has halted, in CYCLE of a cut, with some inputs active. -/
def halted (xs : List Switch) : State := lit xs ((atStep (twoSteps .waste) 0 .cycle).setCycle (cutting .stopped))

theorem witness_ClearRemovesClearedFaults_reactions :
    (axisUnfault (State.reset.setGauge (gaugeIn .faulted none 7 none))).isSome = true ∧
      axisUnfault ((State.reset.setGauge (gaugeIn .faulted none 7 none)).setFaults { FaultSet.none with encoderStall := true }) =
        none ∧
      (halted [.knifeTop]).cycle.state = .stopped ∧ (halted [.knifeTop]).stop = false ∧ (halted [.knifeTop]).on .clampTop = false ∧
      (halted [.clampTop]).on .knifeTop = false ∧ (halted [.knifeTop, .clampTop]).on .knifeTop = true ∧
      (halted [.knifeTop, .clampTop]).on .clampTop = true ∧ (halted [.knifeTop, .clampTop]).stop = false ∧
      (halted [.knifeTop, .clampTop]).runner.inPhase .cycle = true ∧
      (halted [.knifeTop, .clampTop]).runner.lift = some ⟨17, 1, .a⟩ ∧ (halted [.knifeTop, .clampTop]).cycle.counted = false ∧
      (halted [.knifeTop, .clampTop]).theStep = some ⟨0, 0, 40000, 65000, .cut 40000 .waste false⟩ ∧
      ((halted []).setFaults { FaultSet.none with eStop := true }).stop = true := by decide +kernel

/-- A REFERENCE waiting with the cycle READY. -/
def reference : State := (asked 0x09#8 []).setCycle (Cycle.reset true)

theorem witness_ReferenceRequest :
    reference.request 0x09#8 = some (frameOf 0x09#8 []) ∧ (asked 0x09#8 []).cycle.state ≠ .ready ∧
      reference.gauge.inMotion = false ∧ reference.cycle.state = .ready ∧ reference.runner.inPhase .awaitStart = false ∧
      reference.stop = false ∧ reference.guillotineHalt = false ∧ reference.on .homeSwitch = false ∧
      (lit [.homeSwitch] reference).on .homeSwitch = true ∧ (lit [.homeSwitch] reference).request 0x09#8 = some (frameOf 0x09#8 []) ∧
      (gaugeIn .settling none 40000 (some move)).inMotion = true ∧ (runnerAt 0 .awaitStart).inPhase .awaitStart = true ∧
      (reference.setFaults { FaultSet.none with eStop := true }).stop = true ∧
      (reference.setFaults { FaultSet.none with plateRemoved := true }).guillotineHalt = true := by decide +kernel

theorem witness_StoreWritesAreChecked :
    (asked 0x0A#8 [15, 40, 8, 0xD0, 7, 4, 60]).request 0x0A#8 = some (frameOf 0x0A#8 [15, 40, 8, 0xD0, 7, 4, 60]) ∧
      ([15, 40, 8, 0xD0, 7, 4, 60] : List Byte).length = 7 ∧ ¬15 < fieldAt [15, 40, 8, 0xD0, 7, 4, 60] 0 1 ∧
      fieldAt [15, 40, 8, 0xD0, 7, 4, 60] 3 2 = 2000 ∧ 15 < fieldAt [16, 40, 8, 0xD0, 7, 4, 60] 0 1 ∧
      2000 < fieldAt [15, 40, 8, 0xD1, 7, 4, 60] 3 2 ∧ fieldAt [15, 40, 0, 0xD0, 7, 4, 60] 2 1 < 1 ∧
      (asked 0x0C#8 [25, 15, 0, 0, 0]).request 0x0C#8 = some (frameOf 0x0C#8 [25, 15, 0, 0, 0]) ∧
      ([25, 15, 0, 0, 0] : List Byte).length = 5 ∧ isConst (fieldAt [26, 15, 0, 0, 0] 0 1) = false ∧
      isConst (fieldAt [25, 15, 0, 0, 0] 0 1) = true ∧ State.reset.jobRunning = false ∧ State.reset.store.write = none ∧
      constValueOk Consts.default 25 (signedAt [25, 15, 0, 0, 0] 1) = true ∧
      constValueOk Consts.default 25 (signedAt [25, 16, 0, 0, 0] 1) = false ∧
      constValueOk Consts.default 6 (signedAt [6, 0xD4, 0xFE, 0xFF, 0xFF] 1) = true ∧
      (withdrawOf .running none).jobRunning = true := by decide +kernel

/-- The part with a write of Kc in flight. -/
def writing : State :=
  State.reset.setStore { Store.new with write := some ⟨.const 6 (-300), 0x0C#8, 9, ⟨true, 0, 100⟩⟩ }

theorem witness_StoreWriteCompletes :
    writing.store.write = some ⟨.const 6 (-300), 0x0C#8, 9, ⟨true, 0, 100⟩⟩ ∧ writing.link.restart = none ∧
      (linked fun l => { l with restart := some 3, restartDeferred := true }).link.restartDeferred = true := by decide +kernel

theorem witness_NoticeModeRearmAndRestart :
    (asked 0x0E#8 [4, 2]).request 0x0E#8 = some (frameOf 0x0E#8 [4, 2]) ∧ classOfCode (fieldAt [4, 2] 0 1) = some .wait ∧
      modeOfCode (fieldAt [4, 2] 1 1) = some .every ∧ 4 < fieldAt [5, 2] 0 1 ∧ 2 < fieldAt [4, 3] 1 1 ∧
      (asked 0x0F#8 [4]).request 0x0F#8 = some (frameOf 0x0F#8 [4]) ∧ classOfCode (fieldAt [4] 0 1) = some .wait ∧
      4 < fieldAt [5] 0 1 ∧
      (asked 0x10#8 []).request 0x10#8 = some (frameOf 0x10#8 []) ∧ (asked 0x10#8 []).store.write = none ∧
      writing.store.write ≠ none ∧ (linked fun l => { l with restart := some 3 }).link.restart ≠ none := by decide +kernel

theorem witness_PlanTotals : 1 ≤ job.nr ∧ 1 ≤ job.nc ∧ 0 < planConsts.gminStd ∧ planResult job planConsts = .done (planSteps job planConsts) := by
  decide +kernel

theorem witness_PlanStepsAreSound : 1 ≤ job.nr ∧ 1 ≤ job.nc ∧ planResult job planConsts = .done (planSteps job planConsts) := by
  decide +kernel

/-- A planning operation in progress for job 17. -/
def planning (r : JobRecord) : State :=
  ((State.reset.setJobs [⟨r, .planning, some .a, 0, none⟩]).setPlanner (some ⟨17, .a, planConsts, ⟨true, 0, 50⟩⟩)).setBankA
    ⟨some 17, .planning, 0, [], some PaperClass.default⟩

theorem witness_PlanningCompletions :
    (planning job).planner = some ⟨17, .a, planConsts, ⟨true, 0, 50⟩⟩ ∧
      (planning job).entry 17 = some ⟨job, .planning, some .a, 0, none⟩ ∧
      planResult job planConsts = .done (planSteps job planConsts) ∧
      (planning { job with gl := 200 }).entry 17 = some ⟨{ job with gl := 200 }, .planning, some .a, 0, none⟩ ∧
      planResult { job with gl := 200 } planConsts = .refused .sliver ∧ State.reset.planner = none := by decide +kernel

theorem witness_PlanningStartsWithTheBestJob : (planStart (State.reset.setJobs (table 17 2))).isSome = true := by decide +kernel

/-- Both banks full and the Turner CALLING job 17 of priority `p`, with job 18 of priority 7 QUEUED behind it. -/
def displacing (p : Nat) : State :=
  (((State.reset.setJobs
      [⟨{ job with priority := p }, .called, some .b, 0, none⟩, ⟨{ job with number := 18, priority := 7 }, .queued, none, 0, none⟩]).setBankA
      (bankWith (twoSteps .waste))).setBankB
      { bankWith (twoSteps .waste) with state := .ready }).setInfeed
    { State.reset.infeed with turner := .calling, called := some 17 }

theorem witness_JobsAreDisplacedCalledAndDone :
    (displacement (displacing 6)).isSome = true ∧ displacement (displacing 7) = none ∧
      (turnerCall (State.reset.setJobs [entryIn .planned (some .a)])).isSome = true ∧ turnerCall State.reset = none ∧
      (State.reset.setJobs [{ entryIn .running (some .a) with liftsCompleted := 3 }]).entry 17 =
        some { entryIn .running (some .a) with liftsCompleted := 3 } ∧
      (runnerAt 0 .takeaway).lift = some ⟨17, 1, .a⟩ := by decide +kernel

theorem witness_DrawOffsetRoundsHalfUp : 40 ≤ 40 ∧ ({ Consts.default with hmax := 2000 } : Consts).hmax ≤ 2000 ∧ Consts.default.hmax ≤ 1650 := by
  decide +kernel

theorem witness_MoveTargets :
    (Consts.default.gminStd : Int) ≤ Consts.default.gmax ∧ State.reset.on .plateFitted = false ∧
      (lit [.plateFitted] State.reset).on .plateFitted = true ∧
      (targetOf Consts.default false (.park 115001)).1 = 115000 ∧ (targetOf Consts.default false (.park 115000)).1 = 115000 ∧
      (targetOf Consts.default false (.park 2999)).1 = 3000 ∧ (targetOf Consts.default true (.park 1199)).1 = 1200 ∧
      targetOf Consts.default false (.cut 114990 1000 10) = (115000, false) ∧
      targetOf Consts.default false (.cut 114991 1000 10) = (115000, true) ∧
      targetOf Consts.default false (.cut 2990 1000 10) = (3000, false) ∧
      targetOf Consts.default false (.cut 2989 1000 10) = (3000, true) ∧
      ((State.reset.startMove (.park 3000)).gauge.move.map Move.target) = some 3000 ∧ (State.reset.gauge.position : Int) < 3000 ∧
      (targetOf Consts.default false (.park 3000)).1 = (gaugeIn .idle none 3000 none).position ∧
      (targetOf Consts.default false (.park 3000)).1 < (gaugeIn .idle none 3001 none).position := by decide +kernel

/-- The Runner parking for a RECALL. -/
def recalling : State := atStep [⟨0, 1, 9000, 60000, .recall⟩] 0 .parking

/-- A cut's move waiting to be asked, with the gauge as given. -/
def asking (g : Gauge) : State := (atStep (twoSteps .waste) 0 .positioning).setGauge g

theorem witness_MoveTargets_asks :
    (asking (gaugeIn .idle none 7 none)).runner.state = .running ∧ (asking (gaugeIn .idle none 7 none)).runner.asked = none ∧
      (asking (gaugeIn .idle none 7 none)).stop = false ∧ (asking (gaugeIn .idle none 7 none)).guillotineHalt = false ∧
      (asking (gaugeIn .idle none 7 none)).theStep = some ⟨0, 0, 40000, 65000, .cut 40000 .waste false⟩ ∧
      (asking (gaugeIn .idle none 7 none)).runner.lift = some ⟨17, 1, .a⟩ ∧
      (asking (gaugeIn .idle none 7 none)).runner.working = some stack ∧
      ((asking (gaugeIn .idle none 7 none)).bank .a).snapshot = some ⟨10, 4, 300, 2, 20⟩ ∧
      ((askStep (asking (gaugeIn .idle none 7 none))).bind fun u => u.gauge.move.map Move.req) = some (some (.cut 40000 1000 10)) ∧
      (asking State.reset.gauge).gauge.state = .unreferenced ∧ (askStep (asking State.reset.gauge)).isSome = true ∧
      (asking { gaugeIn .referencing (some .search) 7 none with refRun := some refRun }).gauge.refRun.isSome = true ∧
      (asking (gaugeIn .settling none 7 (some move))).gauge.inMotion = true ∧
      (asking (gaugeIn .settling none 7 (some move))).gauge.refRun = none ∧
      askStep (asking (gaugeIn .faulted none 7 none)) = none ∧ askStep (atStep (twoSteps .waste) 0 .awaitStart) = none ∧
      (atStep (twoSteps .waste) 1 .parking).theStep = some ⟨1, 0, 65000, 40000, .turn .cw⟩ ∧
      ((askStep (atStep (twoSteps .waste) 1 .parking)).map fun u => u.gauge.pendingMove) = some (some (.park 65500)) ∧
      recalling.theStep = some ⟨0, 1, 9000, 60000, .recall⟩ ∧ (askStep recalling).isSome = true := by decide +kernel

theorem witness_PileDivision :
    400 ≤ 400 ∧ 50 ≤ 16000 ∧ 100 ≤ job.liftHeight ∧ job.fixedCount = none ∧
      (∀ n, ({ job with fixedCount := some 64 } : JobRecord).fixedCount = some n → 1 ≤ n ∧ n ≤ 64) := by
  refine ⟨by decide, by decide, by decide, by decide, ?_⟩
  intro n h
  cases h
  decide +kernel

/-- The Infeed with a pile of job 17. -/
def piled (t : TurnerState) (l : LiftState) : Infeed :=
  { State.reset.infeed with
    turner := t
    lift := l
    pile := some (pileAtIntake 1650 job 3000)
    motions := [.clampPile, .unclamp]
    turnerTimer := ⟨true, 20000, 20000⟩
    liftTimer := ⟨true, 20000, 20000⟩ }

/-- A FREE unit with one request pending. -/
def requested (q : Requester) (s : State) : State := s.setArbiter ((⟨.free, none, none, none, none⟩ : Arbiter).put q (some 0))

theorem witness_GrantsAreChosenAndTaken :
    (⟨.free, none, some 5999, some 6000, some 6000⟩ : Arbiter).choose 6000 = some .lift ∧
      (⟨.free, none, some 5999, some 5999, none⟩ : Arbiter).choose 6000 = some .cut ∧
      (⟨.free, none, none, none, none⟩ : Arbiter).choose 6000 = none ∧ (requested .cut State.reset).arbiter.unit = .free ∧
      (requested .cut State.reset).stop = false ∧ (requested .cut State.reset).arbiter.choose 6000 = some .cut ∧
      State.reset.store.consts.agingLimit * 100 = 6000 ∧ (requested .turn State.reset).arbiter.choose 6000 = some .turn ∧
      (requested .lift State.reset).arbiter.choose 6000 = some .lift ∧ (cutting .waitGrant).purpose = some .cut ∧
      ({ cutting .waitGrant with purpose := some .ret } : Cycle).purpose = some .ret ∧ State.reset.on .knifeTop = false ∧
      (lit [.knifeTop] State.reset).on .knifeTop = true ∧ (lit [.knifeTop] State.reset).on .clampTop = false ∧
      (lit [.knifeTop, .clampTop] State.reset).on .clampTop = true ∧ (piled .ready .picking).lift = .picking ∧
      (piled .ready .picking).pile = some (pileAtIntake 1650 job 3000) ∧ (piled .ready .depositing).lift = .depositing ∧
      State.reset.jogger.state = .empty ∧ (piled .ready .returning).lift = .returning := by decide +kernel

theorem witness_EmergencyStopHaltsTheLine :
    State.reset.faults.eStop = false ∧ (cutting .strokeDown).moving = true ∧ (cutting .waitGrant).state = .waitGrant ∧
      State.reset.cycle.moving = false ∧ State.reset.cycle.state ≠ .waitGrant ∧
      (gaugeIn .paused (some .search) 0 none).inMotion = true ∧ State.reset.gauge.inMotion = false ∧
      ({ State.reset.jogger with state := .jogging } : Jogger).state = .jogging ∧
      (cutting .strokeDown).monitor = .engaged ∧ (cutting .waitGrant).monitor = .engaged ∧
      (cutting .strokeDown).counted = false ∧ (cutting .waitGrant).returnState = .ready ∧
      (after .eStopOpen State.reset).faults.eStop = true := by decide +kernel

/-- R69, R116: a stop in STROKE_DOWN behind the entry point, before the count: STOPPED, the monitor SPENT, the marker set. -/
theorem test_stop_marks_stack :
    let s : State := (atStep (twoSteps .waste) 0 .cycle).setCycle { cutting .strokeDown with entryPassed := true }
    (after .eStopOpen s).cycle.state = .stopped ∧ (after .eStopOpen s).cycle.monitor = .spent ∧
      ((after .eStopOpen s).runner.working.map StackRec.partialCut) = some true ∧
      (after .eStopOpen s).runner.phase = some .cycle := by decide +kernel

theorem witness_CurtainBreakStopsMotion :
    (gaugeIn .referencing (some .search) 0 none).state = .referencing ∧ (gaugeIn .moving (some .approach) 5 (some move)).state = .moving ∧
      State.reset.gauge.state ≠ .referencing ∧ State.reset.gauge.state ≠ .moving ∧ (cutting .dwell).cutting = true ∧
      (cutting .dwell).purpose = some .cut ∧ (cutting .waitGrant).state = .waitGrant ∧ (cutting .waitGrant).purpose = some .cut ∧
      (cutting .waitGrant).returnState = .ready ∧ State.reset.cycle.purpose ≠ some .cut ∧ (cutting .strokeUp).cutting = false ∧
      (cutting .strokeUp).state ≠ .waitGrant ∧ (cutting .dwell).monitor = .engaged ∧ (cutting .waitGrant).monitor = .engaged ∧
      (gaugeIn .paused (some .search) 0 none).state = .paused ∧ State.reset.jogger.pusher ≠ .hold ∧
      (Jogger.reset true true false).pusher = .hold := by decide +kernel

/-- A paused gauge whose clear interval runs. -/
def pausedGauge (ph : MovePhase) (p : Int) : Gauge := { gaugeIn .paused (some ph) p (some move) with clearTimer := ⟨true, 500, 500⟩ }

/-- A paused gauge that stands at Gmax, its target. -/
def atLimit (ph : MovePhase) : Gauge := { pausedGauge ph 115000 with move := some { move with target := 115000 } }

/-- A paused pusher whose clear interval runs. -/
def pausedPusher : Jogger := { State.reset.jogger with pusher := .forward, paused := true, clearTimer := ⟨true, 500, 500⟩ }

theorem witness_CurtainClearResumesAfterHalfASecond :
    (pausedGauge .search 0).state = .paused ∧ (pausedGauge .search 0).clearTimer.running = true ∧
      (pausedGauge .search 0).phase = some .search ∧ (pausedGauge .overshoot 40199).move = some move ∧
      (pausedGauge .overshoot 40199).position < move.overshoot.getD move.target ∧
      move.overshoot.getD move.target ≤ (pausedGauge .overshoot 40200).position ∧
      move.target < (pausedGauge .overshoot 40200).position ∧ (pausedGauge .approach 40001).phase = some .approach ∧
      move.target < (pausedGauge .approach 40001).position ∧ (pausedGauge .approach 40000).position ≤ move.target ∧
      (pausedGauge .approach 40000).position < min (move.target + move.backlash) move.gmax ∧
      (atLimit .approach).move = some { move with target := 115000 } ∧ (atLimit .approach).position ≤ 115000 ∧
      min (115000 + move.backlash : Int) move.gmax ≤ (atLimit .approach).position ∧
      (atLimit .overshoot).phase = some .overshoot ∧ (40200 : Int) ≤ (atLimit .overshoot).position ∧ pausedPusher.paused = true ∧ pausedPusher.clearTimer.running = true ∧
      State.reset.stop = false := by decide +kernel

/-- The left hand on and the monitor in ONE, with the cycle and the Runner given. -/
def oneHand (c : CycleState) (r : Runner) : State :=
  lit [.handL] ((State.reset.setCycle { Cycle.reset true with state := c, monitor := .one }).setRunner r)

theorem witness_TwoHandMonitorPresses :
    State.reset.cycle.monitor = .idle ∧ (cutting .dwell).monitor = .engaged ∧
      (oneHand .ready (runnerAt 0 .awaitStart)).cycle.monitor = .one ∧
      ((oneHand .ready (runnerAt 0 .awaitStart)).sense .handR true).on .handL = true ∧
      (oneHand .ready (runnerAt 0 .awaitStart)).cycle.state = .ready ∧
      (oneHand .ready (runnerAt 0 .awaitStart)).runner.inPhase .awaitStart = true ∧
      (oneHand .ready (runnerAt 0 .awaitStart)).on .curtain = false ∧ (oneHand .ready (runnerAt 0 .awaitStart)).stop = false ∧
      (oneHand .returnNeeded Runner.reset).cycle.state = .returnNeeded ∧
      (oneHand .ready Runner.reset).runner.inPhase .awaitStart = false ∧ (runnerAt 0 .awaitStart).lift = some ⟨17, 1, .a⟩ ∧
      (bankWith (twoSteps .output)).snapshot = some ⟨10, 4, 300, 2, 20⟩ := by decide +kernel

theorem witness_TwoHandMonitorReleases :
    State.reset.cycle.monitor ≠ .engaged ∧ (cutting .waitGrant).monitor = .engaged ∧ (cutting .waitGrant).state = .waitGrant ∧
      (cutting .clamping).cutting = true ∧ (cutting .clamping).purpose = some .cut ∧ (cutting .unclamp).cutting = false ∧
      (cutting .unclamp).state ≠ .waitGrant ∧ (oneHand .ready Runner.reset).cycle.monitor = .one := by decide +kernel

/-- A dwell with both hands on and the clamp under pressure, or not. -/
def dwelling (pressed : Bool) : State :=
  lit (if pressed then [.handL, .handR, .clampPressure] else [.handL, .handR]) (State.reset.setCycle (cutting .dwell))

theorem witness_ClampDwellAndEntry :
    (cutting .clamping).state = .clamping ∧ 0 < (cutting .clamping).dwell ∧
      ({ cutting .clamping with dwell := 0 } : Cycle).dwell = 0 ∧ (cutting .clamping).monitor = .engaged ∧
      State.reset.on .curtain = false ∧ State.reset.stop = false ∧ State.reset.cycle.state ≠ .clamping ∧
      (cutting .dwell).state = .dwell ∧ (cutting .dwell).height ≠ none ∧ State.reset.cycle.cutting = false ∧
      State.reset.cycle.height = none ∧
      (dwelling true).cycle.state = .dwell ∧ (dwelling true).cycle.monitor = .engaged ∧ (dwelling true).on .curtain = false ∧
      (dwelling true).on .clampPressure = true ∧ (dwelling true).stop = false ∧ (dwelling false).on .clampPressure = false ∧
      ((dwelling true).sense .curtain true).on .curtain = true ∧
      ((dwelling true).sense .curtain true).on .clampPressure = true ∧
      (cutting .strokeDown).state = .strokeDown ∧ (cutting .strokeDown).height = some 900 ∧ State.reset.cycle.state ≠ .strokeDown ∧
      (cutting .clamping).state = .clamping ∧ 10 ≤ 10 ∧ 10 < 11 ∧ State.reset.faults.noStack = false ∧
      ({ FaultSet.none with noStack := true } : FaultSet).noStack = true ∧
      (⟨.held, some .cut, none, none, none⟩ : Arbiter).holder = some .cut ∧ State.reset.cycle.state ≠ .clamping := by decide +kernel

theorem witness_StrokeCountedAtKnifeBottom :
    State.reset.cycle.state ≠ .strokeDown ∧ knifeDown.cycle.state = .strokeDown ∧ knifeDown.runner.inPhase .cycle = true ∧
      knifeDown.theStep = some ⟨0, 0, 40000, 65000, .cut 40000 .waste false⟩ ∧ knifeDown.runner.working = some stack ∧
      knifeDown.cycle.height = some 900 ∧ Runner.reset.inPhase .cycle = false := by decide +kernel

/-- The clamp on its way up after a stroke, counted or not. -/
def clampUp (counted : Bool) : State :=
  ((atStep (twoSteps .waste) 0 .cycle).setCycle { cutting .unclamp with counted := counted }).setArbiter
    ⟨.held, some .cut, none, none, none⟩

theorem witness_ReturnEndsTheCycle :
    (cutting .strokeUp).state = .strokeUp ∧ State.reset.cycle.state ≠ .strokeUp ∧ State.reset.cycle.state ≠ .unclamp ∧
      State.reset.cycle.state ≠ .abortReturn ∧ (cutting .abortReturn).state = .abortReturn ∧ State.reset.on .knifeTop = false ∧
      (lit [.knifeTop] State.reset).on .knifeTop = true ∧ (clampUp true).cycle.state = .unclamp ∧
      (clampUp true).arbiter.holder = some .cut ∧ State.reset.arbiter.holder ≠ some .cut ∧
      Runner.reset.inPhase .cycle = false ∧ (clampUp true).runner.inPhase .cycle = true ∧ (clampUp true).cycle.counted = true ∧
      (clampUp false).cycle.counted = false ∧
      (clampUp false).theStep = some ⟨0, 0, 40000, 65000, .cut 40000 .waste false⟩ ∧
      (clampUp false).runner.lift = some ⟨17, 1, .a⟩ := by decide +kernel

theorem witness_ResetsGiveTheResetValues :
    State.reset.store.write = none ∧ writing.store.write = some ⟨.const 6 (-300), 0x0C#8, 9, ⟨true, 0, 100⟩⟩ ∧
      (linked fun l =>
        { l with tx := .reply, replies := [⟨0x10#8, 3, .ok, 0, []⟩], restart := some 3 }).link.restartSent = true := by
  decide +kernel

theorem witness_InputsAreFiltered :
    let i : Inputs := Inputs.quiet.put .handL ⟨true, false, 3, true⟩
    State.reset.inputs.get .handL = ⟨false, false, 0, false⟩ ∧ State.reset.store.consts.nfOperator = 10 ∧
      min (8 + 1) 15 < 10 ∧ 10 ≤ min (9 + 1) 15 ∧
      changeOf State.reset .liftPresent true = none ∧ changeOf State.reset .handL true = some (.handPress .left) ∧
      (State.reset.setInputs i).inputs.get .handL = ⟨true, false, 3, true⟩ ∧
      (∀ y, y ≠ Switch.handL → ((State.reset.setInputs i).inputs.get y).due = false) ∧
      exec (.handPress .left) State.reset = .next (after (.handPress .left) State.reset) ∧
      (∀ x, (State.reset.inputs.get x).due = false) ∧ State.reset.tape = [] ∧
      (State.reset.setTape [⟨⟨[], ⟨true, false⟩⟩, ⟨0, 0, 0, 0⟩, ⟨0, 0, 0, 0, 0⟩, [], []⟩]).tape ≠ [] ∧
      (0 : Int) ≤ 10000000000 := by
  refine ⟨by decide +kernel, by decide +kernel, by decide, by decide, by decide +kernel, by decide +kernel,
    by decide +kernel, ?_, rfl, ?_, by decide +kernel, by decide +kernel, by decide⟩
  · intro y h
    cases y <;> first | rfl | exact absurd rfl h
  · intro x
    cases x <;> rfl

/-- A gauge in SEARCH of a reference run. -/
def searching : Gauge := { gaugeIn .referencing (some .search) 7 none with valid := false, refRun := some refRun }

theorem witness_ReferenceRunEvents :
    searching.phase = some .search ∧ searching.refRun = some refRun ∧ State.reset.gauge.phase ≠ some .search ∧
      searching.state = .referencing ∧ State.reset.faults.referenceFail = false ∧ searching.stallTimer.running = true ∧
      State.reset.faults.encoderStall = false ∧ ({ searching with state := .paused } : Gauge).phase = some .search ∧
      (gaugeIn .moving (some .approach) 7 none).refRun = none ∧ State.reset.gauge.state ≠ .referencing ∧
      State.reset.gauge.stallTimer.running = false ∧ State.reset.cycle.purpose ≠ some .cut ∧ (cutting .dwell).cutting = true ∧
      (runnerAt 0 .awaitStart).inPhase .awaitStart = true ∧ Runner.reset.inPhase .awaitStart = false := by decide +kernel

/-- The part with no notice queued and every STEP notice on, while a reply is being sent. -/
def listening (s : State) : State :=
  s.setLink
    { s.link with tx := .reply, notices := [], modes := { NoticeModes.reset with step := ⟨.every, true⟩ } }

/-- R85, R93, R175: the search limit queues the FAULT notice, and behind it the STEP notice ABORTED of the run. -/
theorem test_search_limit_notices :
    ((after .searchLimitExpiry (listening (State.reset.setGauge searching))).link.notices.map QueuedNotice.notice) =
      [.fault { FaultSet.none with referenceFail := true }, .step 0 0 0 .reference .aborted ⟨false, 115000, 0⟩] := by
  decide +kernel

/-- The part with a gauge. -/
def gauged (g : Gauge) : State := State.reset.setGauge g

theorem witness_EncoderStepsMoveThePosition :
    -500000 < (gauged (gaugeIn .moving (some .approach) 40001 (some move))).gauge.position ∧
      (gaugeIn .moving (some .approach) 40001 (some move)).position < 500000 ∧ State.reset.gauge.valid = false ∧
      State.reset.gauge.state ≠ .moving ∧ (gaugeIn .moving (some .overshoot) 40198 (some move)).position + 1 < 40200 ∧
      (gaugeIn .moving (some .overshoot) 40199 (some move)).position + 1 = 40200 ∧
      (gaugeIn .moving (some .approach) 40001 (some move)).position - 1 ≤ move.target ∧
      move.target < (gaugeIn .moving (some .approach) 40002 (some move)).position - 1 ∧
      (gaugeIn .moving (some .approach) 3000 (some move)).valid = true ∧ State.reset.on .plateFitted = false ∧
      ((gaugeIn .moving (some .approach) 3000 (some move)).gminStd : Int) ≤
        (gaugeIn .moving (some .approach) 3000 (some move)).position ∧
      (gaugeIn .moving (some .approach) 3000 (some move)).position - 1 <
        (gaugeIn .moving (some .approach) 3000 (some move)).gminStd ∧
      State.reset.faults.plateRemoved = false ∧ (lit [.plateFitted] State.reset).on .plateFitted = true ∧
      (gaugeIn .idle none 2999 none).position < (gaugeIn .idle none 2999 none).gminStd ∧
      ((gauged (gaugeIn .idle none 3000 none)).setFaults { FaultSet.none with plateRemoved := true }).faults.plateRemoved = true ∧
      (after (.encoderStep .forward) (gauged (gaugeIn .moving (some .approach) 3000 (some move)))).faults.plateRemoved = true := by
  decide +kernel

theorem witness_SettleExpiryChecksTheWindow :
    (gaugeIn .settling none 40003 (some move)).state = .settling ∧ (gaugeIn .settling none 40003 (some move)).move = some move ∧
      ((gaugeIn .settling none 40003 (some move)).position - move.target).natAbs ≤ move.wPos ∧
      (gaugeIn .settling none 40003 (some move)).refRun = none ∧ Runner.reset.asked = none ∧
      ({ Runner.reset with asked := some (.handover ⟨17, 2⟩) } : Runner).asked = some (.handover ⟨17, 2⟩) ∧
      ({ runnerAt 0 .positioning with asked := some .step } : Runner).inPhase .positioning = true ∧
      ({ runnerAt 1 .parking with asked := some .step } : Runner).inPhase .parking = true ∧
      (atStep (twoSteps .output) 1 .parking).theStep = some ⟨1, 0, 65000, 40000, .turn .cw⟩ ∧
      ({ gaugeIn .settling none 115001 none with refRun := some refRun } : Gauge).pendingMove = none ∧
      ({ gaugeIn .settling none 115001 none with refRun := some refRun, pendingMove := some (.park 45500) } : Gauge).refRun =
        some refRun ∧
      ((after .settleExpiry (gauged { gaugeIn .settling none 115001 (some (refParkOf refRun)) with
          refRun := some refRun, pendingMove := some (.park 45500) })).gauge.move.map Move.req) = some (some (.park 45500)) ∧
      move.wPos < ((gaugeIn .settling none 40004 (some move)).position - move.target).natAbs ∧
      move.wPos < ((gaugeIn .settling none 39996 (some move)).position - move.target).natAbs ∧
      (gaugeIn .settling none 39996 (some move)).corrective < 2 ∧
      2 ≤ ({ gaugeIn .settling none 39996 (some move) with corrective := 2 } : Gauge).corrective ∧
      State.reset.faults.gaugePosition = false := by decide +kernel

/-- The Runner awaiting a confirmation of the second step, with a third after it. -/
def confirming (a : StepAction) : State :=
  (atStep [⟨0, 0, 0, 0, .recall⟩, ⟨1, 0, 45000, 65000, a⟩, ⟨2, 0, 0, 0, .take .output⟩] 1 .awaitConfirm).setRunner
    { runnerAt 1 .awaitConfirm with hold := true }

theorem witness_StepOkConfirms :
    (confirming (.turn .cw)).runner.inPhase .awaitConfirm = true ∧
      (confirming (.turn .cw)).theStep = some ⟨1, 0, 45000, 65000, .turn .cw⟩ ∧
      (confirming .recall).theStep = some ⟨1, 0, 45000, 65000, .recall⟩ ∧
      (confirming (.take .waste)).theStep = some ⟨1, 0, 45000, 65000, .take .waste⟩ ∧
      (confirming .recall).runner.lift = some ⟨17, 1, .a⟩ ∧ 65000 ≤ 65100 + 100 ∧ 65100 ≤ 65000 + 100 ∧ ¬65101 ≤ 65000 + 100 ∧
      State.reset.store.consts.widthTolerance = 100 ∧ (confirming .recall).runner.hold = true ∧
      (confirming .recall).runner.stepIndex + 1 < ((confirming .recall).bank .a).stepCount ∧
      ({ confirming .recall with runner := { runnerAt 2 .awaitConfirm with hold := false } } : State).theStep =
        some ⟨2, 0, 0, 0, .take .output⟩ ∧
      ¬({ runnerAt 2 .awaitConfirm with hold := false } : Runner).stepIndex + 1 < ((confirming .recall).bank .a).stepCount ∧
      ({ runnerAt 2 .awaitConfirm with takeOk := true } : Runner).inPhase .awaitConfirm = true ∧
      ({ runnerAt 2 .awaitConfirm with takeOk := true } : Runner).takeOk = true ∧
      (lit [.frontClear] (confirming .recall)).on .frontClear = true ∧ (heldRunner true).lastDone = true ∧
      (heldRunner true).lift = some ⟨17, 1, .a⟩ ∧ (heldRunner false).lastDone = false ∧
      ({ heldRunner false with firstOff := true } : Runner).firstOff = true ∧ (heldRunner false).state = .held ∧
      ({ heldRunner false with hold := false } : Runner).hold = false ∧ Runner.reset.state = .clearance ∧
      (runnerAt 0 .cycle).phase ≠ some .awaitConfirm := by decide +kernel

/-- The cut-off of `stack` at 40,000. -/
def front (d : Disposition) : CutOff := cutOffOf stack 40000 900 1 d

/-- The Runner at the take-away of a cut, held after it. -/
def takingAway (d : Disposition) : State :=
  (atStep (twoSteps d) 0 .takeaway).setRunner { runnerAt 0 .takeaway with hold := true, cutoff := some (front d) }

/-- The Runner loading lift 1 of job 17 from the Jogger. -/
def loading : State :=
  ((((State.reset.setJobs [entryIn .running (some .b)]).setBankB { bankWith (twoSteps .waste) with state := .ready }).setRunner
    { Runner.reset with state := .loading }).setJogger
    { State.reset.jogger with state := .handing, lift := some ⟨17, 1, 980⟩, phase := .push, pusher := .forward })

theorem witness_TableSwitchesReleaseTheRunner :
    (runnerAt 0 .prepare).inPhase .prepare = true ∧
      (atStep (twoSteps .output) 0 .prepare).theStep = some ⟨0, 0, 40000, 65000, .cut 40000 .output false⟩ ∧
      (runnerAt 0 .prepare).faultBack = false ∧ (lit [.plateFitted] State.reset).on .plateFitted = true ∧
      (takingAway .aside).runner.inPhase .takeaway = true ∧ (lit [.frontClear] (takingAway .aside)).on .frontClear = true ∧
      (takingAway .aside).theStep = some ⟨0, 0, 40000, 65000, .cut 40000 .aside false⟩ ∧
      (takingAway .aside).runner.cutoff = some (front .aside) ∧ (takingAway .output).runner.cutoff = some (front .output) ∧
      (takingAway .waste).runner.lift = some ⟨17, 1, .a⟩ ∧
      ({ runnerAt 0 .prepare with faultBack := true } : Runner).faultBack = true ∧ State.reset.guillotineHalt = false ∧
      State.reset.on .plateFitted = false ∧ ({ Runner.reset with state := .liftEnd } : Runner).state = .liftEnd ∧
      State.reset.on .loadInPlace = false ∧ (Infeed.reset true).lift = .clearance ∧ (Infeed.reset true).clearReturn = false ∧
      (Infeed.reset true).liftOrphan = none ∧ State.reset.on .reamHeld = false ∧
      (lit [.reamHeld] State.reset).on .reamHeld = true ∧ takeawayEnd (takingAway .aside) = none ∧
      (takeawayEnd (lit [.frontClear] (takingAway .aside))).isSome = true := by decide +kernel

/-- A step in AWAIT_START under a guillotine station fault, with the cycle as given. -/
def revoked (c : Cycle) : State :=
  ((atStep (twoSteps .waste) 0 .awaitStart).setCycle c).setFaults { FaultSet.none with plateRemoved := true }

theorem witness_TableSwitchesReleaseTheRunner_revoked :
    (revoked (cutting .waitGrant)).runner.inPhase .awaitStart = true ∧ (revoked (cutting .waitGrant)).guillotineHalt = true ∧
      (revoked (cutting .waitGrant)).cycle.state = .waitGrant ∧ (revoked (cutting .waitGrant)).cycle.purpose = some .cut ∧
      (startRevoked (revoked (cutting .waitGrant))).isSome = true ∧ (revoked (Cycle.reset true)).cycle.state = .ready ∧
      (startRevoked (revoked (Cycle.reset true))).isSome = true ∧ (runnerAt 0 .cycle).inPhase .awaitStart = false := by
  decide +kernel

/-- Job 17 RUNNING with its first lift in the Jogger and the Runner IDLE. -/
def awaitingLift (st : JoggerState) : State :=
  (((State.reset.setJobs [entryIn .running (some .b)]).setBankB { bankWith (twoSteps .waste) with state := .ready }).setRunner
      { Runner.reset with state := .idle, park := some ⟨17, 1⟩ }).setJogger
    { State.reset.jogger with state := st, lift := some ⟨17, 1, 980⟩ }

theorem witness_LiftsAreParkedForAndHandedOver :
    (awaitingLift .jogging).jogger.state = .jogging ∧ (awaitingLift .jogging).jogger.lift = some ⟨17, 1, 980⟩ ∧
      ({ State.reset.infeed with held := some ⟨17, 1, 980⟩ } : Infeed).held = some ⟨17, 1, 980⟩ ∧
      (awaitingLift .jogging).entry 17 = some (entryIn .running (some .b)) ∧ (awaitingLift .jogging).runner.state = .idle ∧
      (awaitingLift .jogging).stop = false ∧ (awaitingLift .jogging).guillotineHalt = false ∧
      (awaitingLift .jogging).gauge.state = .unreferenced ∧ (gaugeIn .idle none 5 none).state = .idle ∧
      Runner.reset.park ≠ some ⟨17, 1⟩ ∧ (awaitingLift .jogging).runner.asked ≠ some (.handover ⟨17, 1⟩) ∧
      askHandover (awaitingLift .jogging) = none ∧ (awaitingLift .aligned).jogger.state = .aligned ∧
      (lit [.pusherHome, .frontClear] (awaitingLift .aligned)).on .pusherHome = true ∧
      (awaitingLift .aligned).runner.aside = [] ∧
      (lit [.pusherHome, .frontClear] (awaitingLift .aligned)).on .frontClear = true ∧
      (awaitingLift .aligned).runner.park = some ⟨17, 1⟩ ∧ (awaitingLift .aligned).jogger.paused = false ∧
      (lit [.pusherHome, .frontClear] (awaitingLift .aligned)).on .loadInPlace = false ∧
      (transferBegin (lit [.pusherHome, .frontClear] (awaitingLift .aligned))).isSome = true ∧
      (lit [.loadInPlace] (awaitingLift .aligned)).on .loadInPlace = true ∧ State.reset.jogger.phase = .none ∧
      loading.jogger.phase = .push ∧ loading.jogger.lift = some ⟨17, 1, 980⟩ ∧ loading.runner.state = .loading ∧
      loading.entry 17 = some (entryIn .running (some .b)) ∧ (loading.bank .b).state = .ready ∧
      ({ loading.jogger with phase := .timedOut } : Jogger).phase = .timedOut ∧ loading.faults.transferTimeout = false ∧
      loading.on .loadInPlace = false := by decide +kernel

/-- R152: LOAD_IN_PLACE during a curtain pause: the pusher goes back, still paused, with the clear interval it had. -/
theorem test_pause_kept_at_load :
    ((after .loadInPlaceActive
      (loading.setJogger { loading.jogger with paused := true, clearTimer := ⟨true, 200, 500⟩ })).jogger).paused = true ∧
      ((after .loadInPlaceActive
        (loading.setJogger { loading.jogger with paused := true, clearTimer := ⟨true, 200, 500⟩ })).jogger).clearTimer.elapsed =
        200 := by decide +kernel

/-- The Turner calling job 17. -/
def calling : State :=
  (State.reset.setJobs [entryIn .called (some .a)]).setInfeed { State.reset.infeed with turner := .calling, called := some 17 }

theorem witness_PilesArriveAndLeave :
    State.reset.infeed.turner ≠ .calling ∧ calling.infeed.turner = .calling ∧ calling.infeed.rejected = false ∧
      calling.infeed.called = some 17 ∧ calling.entry 17 = some (entryIn .called (some .a)) ∧ 50 ≤ 50 ∧ 16000 ≤ 16000 ∧
      49 < 50 ∧ 16000 < 16001 ∧ calling.faults.pileBad = false ∧ (piled .turning .idle).turner = .turning ∧
      (piled .ready .idle).turner = .ready ∧ (piled .exhausted .idle).turner = .exhausted ∧
      ({ calling.infeed with rejected := true } : Infeed).rejected = true ∧ State.reset.infeed.turner = .empty ∧
      (calling.setFaults { FaultSet.none with pileBad := true }).faults.pileBad = true ∧
      (after (.pilePresentActive 49) (calling.setFaults { FaultSet.none with pileBad := true })).infeed.rejected = true ∧
      (after (.pilePresentActive 16000) calling).infeed.turner = .turning := by decide +kernel

/-- A call for job 17 after a rejected pile has gone, with PILE_BAD latched or cleared. -/
def rejectedGone (bad : Bool) : State :=
  (calling.setInfeed { calling.infeed with rejected := true }).setFaults { FaultSet.none with pileBad := bad }

theorem witness_PilesArriveAndLeave_reactions :
    (emptyOccupied (lit [.pilePresent] State.reset)).isSome = true ∧ emptyOccupied State.reset = none ∧
      (rejectedGone false).infeed.rejected = true ∧ (rejectedGone false).on .pilePresent = false ∧
      (rejectedGone false).faults.pileBad = false ∧ (rejectedGone false).infeed.turner = .calling ∧
      (rejectedGone false).infeed.called = some 17 ∧ (rejectedOver (rejectedGone false)).isSome = true ∧
      rejectedOver (rejectedGone true) = none ∧ rejectedOver (lit [.pilePresent] (rejectedGone false)) = none ∧
      ((rejectedGone false).setInfeed { State.reset.infeed with rejected := true }).infeed.turner ≠ .calling := by decide +kernel

/-- The pile of job 17 with some lifts picked and a remaining height. -/
def pileWith (done rest : Nat) : PileRec := { pileAtIntake 1650 job 3000 with picked := done, remaining := rest }

/-- A lost pile of job 17 that stands on its pallet again, with a reading. -/
def broughtBack (t : TurnerState) (done reading : Nat) : State :=
  lit [.pilePresent]
    (((State.reset.setJobs [entryIn .running (some .a)]).setChannels ⟨reading, 0, 0, 0⟩).setInfeed
      { piled t .picking with pileLost := true, pile := some (pileWith done 3000) })

theorem witness_PilesRunOutAndComeBack :
    0 < (pileWith 3 58).limit ∧ (pileWith 3 58).picked ≤ (pileWith 3 58).count ∧ (pileWith 3 58).count ≤ 64 ∧
      (pileWith 3 58).count = (pileWith 3 58).picked ∧ 50 ≤ (pileWith 3 50).remaining ∧ (pileWith 3 50).picked < 64 ∧
      (pileWith 3 49).remaining < 50 ∧ (piled .ready .picking).lift = .picking ∧
      (piled .ready .picking).pile = some (pileAtIntake 1650 job 3000) ∧ (piled .ready .picking).liftOrphan = none ∧
      (broughtBack .turning 0 50).infeed.pileLost = true ∧ (broughtBack .turning 0 50).on .pilePresent = true ∧
      (broughtBack .turning 0 50).faults.pileBad = false ∧ (broughtBack .turning 0 50).infeed.turner = .turning ∧
      (broughtBack .turning 0 50).infeed.pile = some (pileWith 0 3000) ∧
      (broughtBack .turning 0 50).entry 17 = some (entryIn .running (some .a)) ∧ 0 < (pileWith 0 3000).limit ∧
      (broughtBack .ready 0 16000).infeed.turner = .ready ∧ (broughtBack .exhausted 3 0).infeed.turner = .exhausted ∧
      (pileWith 0 3000).picked = 0 ∧ 0 < (pileWith 2 3000).picked ∧
      (PileRec.redivide { pileWith 2 3000 with remaining := 50 }).exhausted = false ∧
      (PileRec.redivide { pileWith 2 3000 with remaining := 49 }).exhausted = true := by decide +kernel

/-- The Infeed with a unit holding the grant. -/
def granted (q : Requester) (i : Infeed) : State := (State.reset.setInfeed i).setArbiter ⟨.held, some q, none, none, none⟩

theorem witness_InfeedMotionsComplete :
    State.reset.arbiter.holder ≠ some (unitRequester .turner) ∧ (granted .turn (piled .turning .idle)).arbiter.holder = some .turn ∧
      (piled .turning .idle).turnerOrphan = none ∧ (piled .turning .idle).motions = .clampPile :: [.unclamp] ∧
      (granted .lift (piled .ready .picking)).arbiter.holder = some .lift ∧ (piled .ready .picking).liftOrphan = none ∧
      (piled .ready .picking).lift = .picking ∧ (piled .ready .picking).pile = some (pileAtIntake 1650 job 3000) ∧ 50 ≤ 50 ∧
      (pileAtIntake 1650 job 3000).picked + 1 < (pileAtIntake 1650 job 3000).count ∧
      (pileAtIntake 1650 job 3000).exhausted = false ∧ (piled .ready .picking).failedPicks = 0 ∧
      ({ piled .ready .picking with failedPicks := 1 } : Infeed).failedPicks = 1 ∧ State.reset.faults.motionTimeout = false ∧
      (piled .ready .depositing).lift = .depositing ∧ ({ State.reset.jogger with state := .receiving } : Jogger).state = .receiving ∧
      ({ piled .clearance .clearance with turnerOrphan := some .rotateCw } : Infeed).turnerOrphan.isSome = true ∧
      (granted .turn (piled .clearance .clearance)).infeed.turner = .clearance ∧
      ({ piled .clearance .clearance with liftOrphan := some .pick } : Infeed).liftOrphan.isSome = true ∧
      (granted .lift (piled .clearance .clearance)).infeed.lift = .clearance ∧
      (piled .ready .returning).lift = .returning ∧ ((piled .turning .idle).timerOf .turner).running = true ∧
      ((piled .ready .picking).timerOf .lift).running = true ∧
      (PileRec.redivide { pileWith 0 3000 with remaining := 50, picked := 1 }).exhausted = false ∧
      (PileRec.redivide { pileWith 0 3000 with remaining := 49, picked := 1 }).exhausted = true ∧
      ((granted .lift (piled .ready .picking)).setFaults { FaultSet.none with motionTimeout := true }).faults.motionTimeout = true ∧
      State.reset.jogger.state ≠ .receiving ∧ (State.reset.infeed.timerOf .turner).running = false := by decide +kernel

/-- R132, R134: the last counted PICK with 1,100 tenths left: one lift more, the rest divided anew over two lifts. -/
theorem test_pick_adds_a_lift :
    let q : PileRec := { pileWith 2 2000 with count := 3 }
    ((after (.motionDone .lift true 1100) (granted .lift { piled .ready .picking with pile := some q })).infeed.pile).map
        (fun x => (x.picked, x.count, x.base, x.extra)) = some (3, 5, 550, 0) := by decide +kernel

theorem witness_InfeedMotionsComplete_begin :
    ((liftStart (State.reset.setInfeed { piled .ready .idle with returnOwed := false })).map fun u => u.infeed.lift) = some .picking ∧
      ((liftStart (State.reset.setInfeed (piled .ready .idle))).map fun u => u.infeed.lift) =
        some .returning ∧
      liftStart (State.reset.setInfeed (piled .turning .idle)) = none ∧
      ((depositStart (State.reset.setInfeed (piled .ready .holding))).map fun u => u.infeed.lift) = some .depositing ∧
      depositStart ((State.reset.setInfeed (piled .ready .holding)).setFaults { FaultSet.none with motionTimeout := true }) =
        none := by decide +kernel

/-- A Jogger in JOGGING with a scan and its timer running. -/
def jogging (pass : Nat) (used : Bool) : Jogger :=
  { State.reset.jogger with
    state := .jogging
    lift := some ⟨17, 1, 980⟩
    intensity := 4
    rejogUsed := used
    pass := pass
    jogTimer := ⟨true, 20000, 20000⟩
    scan := some ⟨12, ⟨0, 0, 0, 0, 0⟩, ⟨true, 25, 25⟩⟩ }

theorem witness_JoggingScansAndFails :
    (jogging 3 false).state = .jogging ∧ (jogging 3 false).scan = some ⟨12, ⟨0, 0, 0, 0, 0⟩, ⟨true, 25, 25⟩⟩ ∧
      32768 ≤ min 2048 (2 ^ 12 - 1) * 2 ^ (16 - 12) ∧ ¬32768 ≤ min 2047 (2 ^ 12 - 1) * 2 ^ (16 - 12) ∧
      (jogging 3 false).pass + 1 = State.reset.store.consts.na ∧ (jogging 2 false).pass + 1 ≠ State.reset.store.consts.na ∧
      (jogging 0 false).jogTimer.running = true ∧ (jogging 0 false).rejogUsed = false ∧ State.reset.stop = false ∧
      (jogging 0 true).rejogUsed = true ∧ State.reset.faults.jogFailed = false ∧
      ({ jogging 0 true with state := .failed } : Jogger).state = .failed ∧ (Jogger.reset true false false).state = .clearance ∧
      (lit [.pusherHome] State.reset).on .pusherHome = true ∧ State.reset.on .pusherHome = false ∧
      State.reset.jogger.state ≠ .failed ∧ State.reset.jogger.state ≠ .clearance ∧
      (jogging 0 false).scan ≠ none ∧ State.reset.jogger.scan = none ∧ State.reset.jogger.jogTimer.running = false ∧
      ({ FaultSet.none with jogFailed := true } : FaultSet).jogFailed = true ∧ (Jogger.reset true false false).pusher = .hold ∧
      ({ Jogger.reset true false false with pusher := .back } : Jogger).pusher = .back := by decide +kernel

/-- Job 17's lift in the Jogger as given. -/
def inJogger (j : Jogger) : State := (atStep (twoSteps .waste) 0 .cycle).setJogger j

theorem witness_JoggingScansAndFails_restarts :
    (inJogger { jogging 0 true with jogTimer := Timer.stopped }).stop = false ∧
      ((jogRestart (inJogger { jogging 0 true with jogTimer := Timer.stopped })).map fun u =>
        (u.jogger.intensity, u.jogger.rejogUsed, u.jogger.jogTimer)) = some (4, true, ⟨true, 0, 20000⟩) ∧
      jogRestart (inJogger (jogging 0 true)) = none ∧
      ((jogRetry (inJogger { jogging 0 true with state := .failed })).map fun u =>
        (u.jogger.intensity, u.jogger.rejogUsed, u.jogger.jogTimer)) = some (2, false, ⟨true, 0, 20000⟩) ∧
      jogRetry ((inJogger { jogging 0 true with state := .failed }).setFaults { FaultSet.none with jogFailed := true }) = none := by
  decide +kernel

theorem witness_JobPaper : JobPaper (inJogger (jogging 0 true)) 17 ⟨10, 4, 300, 2, 20⟩ :=
  ⟨entryIn .running (some .a), .a, by decide +kernel, by decide +kernel, by decide +kernel⟩

theorem witness_PusherComesHomeOrTimesOut :
    ({ loading.jogger with phase := .ret } : Jogger).phase = .ret ∧
      ({ Jogger.reset true false false with pusher := .back } : Jogger).state = .clearance ∧ State.reset.jogger.phase ≠ .ret ∧
      State.reset.jogger.pusher = .back ∧ State.reset.jogger.state ≠ .clearance ∧ loading.jogger.pusher ≠ .back ∧
      loading.jogger.phase = .push ∧ loading.jogger.pusher = .forward ∧ loading.jogger.paused = false ∧ loading.stop = false ∧
      loading.faults.transferTimeout = false ∧ State.reset.jogger.phase ≠ .push ∧ pausedPusher.paused = true ∧
      (loading.setFaults { FaultSet.none with transferTimeout := true }).faults.transferTimeout = true := by decide +kernel

/-- R153, R175, R95: the transfer's timeout during a reference run: FAULT, and behind it STEP ABORTED; the lift stays. -/
theorem test_transfer_timeout_notices :
    let t : State := after .transferTimerExpiry (listening (loading.setGauge searching))
    t.link.notices.map QueuedNotice.notice =
        [.fault { FaultSet.none with transferTimeout := true }, .step 0 0 0 .reference .aborted ⟨false, 115000, 0⟩] ∧
      t.jogger.lift = loading.jogger.lift ∧ t.runner.state = .loading := by decide +kernel

theorem witness_HydraulicsReadyAndLost :
    State.reset.arbiter.unit = .unavailable ∧ (clampUp true).arbiter.unit ≠ .unavailable ∧
      (Arbiter.reset true).unit = .free ∧ (clampUp true).arbiter.unit = .held ∧ (clampUp true).faults.hydPressure = false ∧
      (clampUp true).cycle.moving = true ∧
      ((clampUp true).setFaults { FaultSet.none with hydPressure := true }).faults.hydPressure = true := by decide +kernel

/-- Each of the part's own events, in a state in which it is the first that has come about. -/
theorem witness_IdleStepServesOrTicks_events :
    ownEvent (State.reset.setInputs (Inputs.quiet.put .handL ⟨true, false, 10, true⟩)) = some (.handPress .left) ∧
      ownEvent ((State.reset.setCycle (cutting .strokeDown)).setChannels ⟨0, 0, 900, 0⟩) = some (.entryPoint 900) ∧
      ownEvent ((State.reset.setCycle (cutting .strokeDown)).setChannels ⟨0, 0, 901, 0⟩) = none ∧
      ownEvent ((State.reset.setCycle (cutting .clamping)).setChannels ⟨0, 10, 0, 0⟩) = some (.clampBottom 10) ∧
      ownEvent ((State.reset.setCycle (cutting .clamping)).setChannels ⟨0, 11, 0, 0⟩) = none ∧
      ownEvent (gauged { gaugeIn .settling none 40000 (some move) with settleTimer := ⟨true, 150, 150⟩ }) = some .settleExpiry ∧
      ownEvent (gauged { gaugeIn .settling none 40000 (some move) with settleTimer := ⟨true, 149, 150⟩ }) = none ∧
      ownEvent (gauged { searching with searchTimer := ⟨true, 30000, 30000⟩ }) = some .searchLimitExpiry ∧
      ownEvent (gauged { searching with stallTimer := ⟨true, 200, 200⟩ }) = some .encoderStall ∧
      ownEvent (gauged (pausedGauge .search 0)) = some .gaugeCurtainClearExpiry ∧
      ownEvent (State.reset.setCycle { cutting .dwell with dwellTimer := ⟨true, 300, 300⟩ }) = some .dwellExpiry ∧
      ownEvent (State.reset.setInfeed (piled .turning .idle)) = some (.motionTimerExpiry .turner) ∧
      ownEvent (State.reset.setInfeed { piled .ready .picking with turnerTimer := Timer.stopped }) =
        some (.motionTimerExpiry .lift) ∧
      ownEvent (State.reset.setJogger (jogging 3 false)) = some (.edgeScanEnd ⟨0, 0, 0, 0, 0⟩) ∧
      ownEvent (State.reset.setJogger { jogging 3 false with scan := none }) = some .jogTimerExpiry ∧
      ownEvent (State.reset.setJogger { loading.jogger with transferTimer := ⟨true, 10000, 10000⟩ }) =
        some .transferTimerExpiry ∧
      ownEvent (State.reset.setJogger pausedPusher) = some .pusherCurtainClearExpiry ∧
      ownEvent ((planning job).setPlanner (some ⟨17, .a, planConsts, ⟨true, 50, 50⟩⟩)) = some .planDone ∧
      ownEvent (State.reset.setStore { Store.new with write := some ⟨.const 6 (-300), 0x0C#8, 9, ⟨true, 100, 100⟩⟩ }) =
        some .storeWriteComplete ∧
      ownEvent (linked fun l => { l with tx := .reply, txTimer := ⟨true, 2, 2⟩ }) = some .frameSent := by decide +kernel

/-- R149, R152: the transfer timer counts with the pusher going forward, and stands while it is paused. -/
theorem test_transfer_timer_suspended :
    (State.reset.setJogger { loading.jogger with transferTimer := ⟨true, 7, 10000⟩ }).tick.jogger.transferTimer = ⟨true, 8, 10000⟩ ∧
      (State.reset.setJogger { loading.jogger with transferTimer := ⟨true, 7, 10000⟩, paused := true }).tick.jogger.transferTimer =
        ⟨true, 7, 10000⟩ := by decide +kernel

/-- The command HOLD at the front of the queue of the reset state. -/
def oneWaiting : State := State.reset.setPending [.hold]

theorem witness_LinkBoundsAreKept : oneWaiting.linkBounded ∧ step oneWaiting = .next (after .hold State.reset) := by
  exact ⟨by unfold State.linkBounded; decide +kernel, rfl⟩

theorem witness_TableBoundsAreKept : oneWaiting.tableBounded ∧ step oneWaiting = .next (after .hold State.reset) := by
  exact ⟨by unfold State.tableBounded; decide +kernel, rfl⟩

theorem witness_StoreStaysSound : oneWaiting.storeSound ∧ step oneWaiting = .next (after .hold State.reset) := by
  refine ⟨⟨by decide +kernel, by decide +kernel, by decide +kernel, ?_⟩, rfl⟩
  intro w h
  cases h

theorem witness_ArbiterStaysSound : oneWaiting.arbiterSound ∧ step oneWaiting = .next (after .hold State.reset) := by
  refine ⟨⟨by decide +kernel, ?_, ?_, by decide +kernel, by decide +kernel, by decide +kernel⟩, rfl⟩
  · intro q h
    cases h
  · intro h
    exact absurd h (by decide +kernel)

/-- A cut in STROKE_DOWN with both hands on, the grant held, and a hand's release waiting. -/
def strokeWithRelease : State :=
  (lit [.handL, .handR, .clampPressure, .hydReady] (knifeDown.setArbiter ⟨.held, some .cut, none, none, none⟩)).setPending
    [.handRelease .left]

theorem witness_KnifeStaysSafe :
    strokeWithRelease.arbiterSound ∧ strokeWithRelease.knifeSafe ∧ strokeWithRelease.cycle.cutting = true ∧
      step strokeWithRelease = .next (after (.handRelease .left) (strokeWithRelease.setPending [])) := by
  refine ⟨⟨by decide +kernel, ?_, ?_, by decide +kernel, by decide +kernel, by decide +kernel⟩, ⟨?_, ?_⟩, by decide +kernel, rfl⟩
  · intro q h
    cases h
    decide +kernel
  · intro h
    exact absurd h (by decide +kernel)
  · intro _
    decide +kernel
  · intro _
    decide +kernel

theorem witness_KnifeGoesDownOnlyUnderR109 :
    (dwelling true).cycle.state ≠ .strokeDown ∧ (after .dwellExpiry (dwelling true)).cycle.state = .strokeDown ∧
      knifeDown.cycle.counted = false ∧ (after .knifeBottomActive knifeDown).cycle.counted = true := by decide +kernel

end Sys2Proof.Tests
end

section
/-! Orientation records (R1 to R4): where the edges come to lie under a turn and under INVERT. Two facts about the
clockwise order carry the rest: it has four edges, and turning the face over reverses it. -/
namespace Sys2Proof.Machine

/-- The clockwise order comes round again after four edges (R1). -/
theorem clockwiseNext_period (f : Face) (e : Edge) :
    clockwiseNext f (clockwiseNext f (clockwiseNext f (clockwiseNext f e))) = e := by
  cases f <;> cases e <;> rfl

/-- The order seen with the other face up is the same order gone round the other way (R1, R4). -/
@[simp] theorem clockwiseNext_invert_face (o : Orientation) (e : Edge) :
    clockwiseNext o.invert.face (clockwiseNext o.face e) = e := by
  obtain ⟨rear, face⟩ := o
  cases face <;> cases e <;> rfl

namespace Orientation

/-! ### The positions of one record (R1) -/

theorem clockwiseNext_front (o : Orientation) : clockwiseNext o.face o.front = o.left := rfl

theorem clockwiseNext_left (o : Orientation) : clockwiseNext o.face o.left = o.rear :=
  clockwiseNext_period o.face o.rear

/-! ### The turns (R2, R3) -/

@[simp] theorem turn_face (o : Orientation) (k : TurnKind) : (o.turn k).face = o.face := by
  cases k <;> rfl

@[simp] theorem turn_cw_rear (o : Orientation) : (o.turn .cw).rear = o.left := rfl

@[simp] theorem turn_ccw_rear (o : Orientation) : (o.turn .ccw).rear = o.right := rfl

@[simp] theorem turn_half_rear (o : Orientation) : (o.turn .half).rear = o.front := rfl

@[simp] theorem turn_cw_right (o : Orientation) : (o.turn .cw).right = o.rear :=
  clockwiseNext_left o

@[simp] theorem turn_cw_front (o : Orientation) : (o.turn .cw).front = o.right :=
  congrArg (clockwiseNext o.face) (turn_cw_right o)

@[simp] theorem turn_cw_left (o : Orientation) : (o.turn .cw).left = o.front :=
  congrArg (clockwiseNext o.face) (turn_cw_front o)

@[simp] theorem turn_half_right (o : Orientation) : (o.turn .half).right = o.left :=
  clockwiseNext_front o

@[simp] theorem turn_half_front (o : Orientation) : (o.turn .half).front = o.rear :=
  (congrArg (clockwiseNext o.face) (turn_half_right o)).trans (clockwiseNext_left o)

@[simp] theorem turn_half_left (o : Orientation) : (o.turn .half).left = o.right :=
  congrArg (clockwiseNext o.face) (turn_half_front o)

/-! ### INVERT (R4): each position is read off by going back one edge in the old order -/

@[simp] theorem invert_rear (o : Orientation) : o.invert.rear = o.rear := rfl

theorem invert_face_ne (o : Orientation) : o.invert.face ≠ o.face := by
  obtain ⟨rear, face⟩ := o
  cases face <;> exact Face.noConfusion

@[simp] theorem invert_right (o : Orientation) : o.invert.right = o.left :=
  calc o.invert.right
    _ = clockwiseNext o.invert.face (clockwiseNext o.face o.left) :=
        congrArg (clockwiseNext o.invert.face) (clockwiseNext_left o).symm
    _ = o.left := clockwiseNext_invert_face o o.left

@[simp] theorem invert_front (o : Orientation) : o.invert.front = o.front :=
  calc o.invert.front
    _ = clockwiseNext o.invert.face (clockwiseNext o.face o.front) :=
        congrArg (clockwiseNext o.invert.face) (invert_right o)
    _ = o.front := clockwiseNext_invert_face o o.front

@[simp] theorem invert_left (o : Orientation) : o.invert.left = o.right :=
  calc o.invert.left
    _ = clockwiseNext o.invert.face (clockwiseNext o.face o.right) :=
        congrArg (clockwiseNext o.invert.face) (invert_front o)
    _ = o.right := clockwiseNext_invert_face o o.right

/-! ### Transforms in a row -/

/-- A record is its rear edge and its face (R1). -/
theorem eq_of_rear_face {o p : Orientation} (hrear : o.rear = p.rear) (hface : o.face = p.face) : o = p := by
  cases o
  cases p
  exact congrArg₂ Orientation.mk hrear hface

theorem turn_cw_turn_ccw (o : Orientation) : (o.turn .cw).turn .ccw = o :=
  eq_of_rear_face (turn_cw_right o) (by simp)

theorem turn_half_turn_half (o : Orientation) : (o.turn .half).turn .half = o :=
  eq_of_rear_face (turn_half_front o) (by simp)

theorem turn_cw_turn_cw (o : Orientation) : (o.turn .cw).turn .cw = o.turn .half :=
  eq_of_rear_face (turn_cw_left o) (by simp)

theorem invert_invert (o : Orientation) : o.invert.invert = o := by
  obtain ⟨rear, face⟩ := o
  cases face <;> rfl

end Orientation

/-- Settles O21: each transform's positions by R1's order, the compositions from the positions. -/
theorem turnsAndInversion : Obligations.TurnsAndInversion := by
  intro o
  refine ⟨⟨o.turn_cw_rear, o.turn_face _⟩, ⟨o.turn_ccw_rear, o.turn_face _⟩, ?half, ?invert,
    o.turn_cw_turn_ccw, o.turn_half_turn_half, o.invert_invert, o.turn_cw_turn_cw⟩
  case half => exact ⟨o.turn_half_rear, o.turn_face _, o.turn_half_front, o.turn_half_left, o.turn_half_right⟩
  case invert => exact ⟨o.invert_face_ne, o.invert_rear, o.invert_front, o.invert_left, o.invert_right⟩

end Sys2Proof.Machine
end

section
/-! SUBMIT (R20, R21): the checks in their order, each branch of the acceptance as an equation, and the accepted entry's
notice and reply on the link. -/
namespace Sys2Proof.Machine

/-- Where no reaction is due, the end of a command is the transmitter's choice alone. -/
theorem State.finish_of_quiet {u : State} (h : react u = none) : u.finish = u.transmit :=
  congrArg State.transmit (settle_of_quiet u h)

/-- A served SUBMIT of 36 bytes is carried out on the state without its frame, and the part settles (R186). -/
theorem exec_submit_of_request {s : State} {f : Frame} (hreq : s.request 0x01#8 = some f) (hlen : f.body.length = 36) :
    exec .submit s = .next (submitJob f s.dequeue).finish :=
  congrArg (fun t : State => Host.Outcome.next t.finish) (s.serve_right 0x01#8 36 submitJob f hreq hlen)

/-! ### The checks of R20, in order -/

theorem submitJob_of_badField {s : State} {f : Frame} {no : Nat}
    (hbad : firstBadField s.store.consts.hmax f.body = some no) : submitJob f s = s.answer f .range no [] := by
  simp [submitJob, hbad]

theorem submitJob_of_duplicate {s : State} {f : Frame} (hok : firstBadField s.store.consts.hmax f.body = none)
    (hdup : (s.entry (jobOfBody f.body).number).isSome = true) : submitJob f s = s.answer f .duplicate 0 [] := by
  simp [submitJob, hok, hdup]

theorem submitJob_of_tableFull {s : State} {f : Frame} (hok : firstBadField s.store.consts.hmax f.body = none)
    (hnew : s.entry (jobOfBody f.body).number = none) (hfull : 8 ≤ s.jobs.length) :
    submitJob f s = s.answer f .tableFull 0 [] := by
  simp [submitJob, hok, hnew, maxJobs, hfull]

/-! ### Acceptance (R21) -/

/-- The state in which a job is accepted: its entry at the end of the table, its JOB notice offered, OK answered. -/
def State.acceptJob (s : State) (f : Frame) (r : JobRecord) : State :=
  ((s.setJobs (s.jobs ++ [newEntry r])).notify (.job r.number .queued .accepted)).answer f .ok 0 []

theorem submitJob_of_accepted {s : State} {f : Frame} (hok : firstBadField s.store.consts.hmax f.body = none)
    (hnew : s.entry (jobOfBody f.body).number = none) (hroom : s.jobs.length < 8) :
    submitJob f s = s.acceptJob f (jobOfBody f.body) := by
  simp [submitJob, State.acceptJob, hok, hnew, maxJobs, Nat.not_le.mpr hroom]

theorem State.acceptJob_jobs (s : State) (f : Frame) (r : JobRecord) :
    (s.acceptJob f r).jobs = s.jobs ++ [newEntry r] := by
  simp [State.acceptJob]

/-- The offer of the JOB notice does not look at the requests, so it stands as if made before the frame left the queue. -/
theorem State.dequeue_acceptJob_link (s : State) (f : Frame) (r : JobRecord) :
    (s.dequeue.acceptJob f r).link = (s.link.offer (.job r.number .queued .accepted)).replied f .ok 0 [] := by
  simp [State.acceptJob, Link.replied, Link.offer_requests]

theorem State.dequeue_acceptJob_sameBut (s : State) (f : Frame) (r : JobRecord) :
    SameBut [.link, .jobs] s (s.dequeue.acceptJob f r) := by
  simp [SameBut, State.acceptJob]

/-- Settles O9: the refusals and the acceptance, each by the branch of `submitJob` its conditions choose. -/
theorem submitAcceptsOrRefuses : Obligations.SubmitAcceptsOrRefuses := by
  intro s f hreq hlen
  have hexec := exec_submit_of_request hreq hlen
  refine ⟨fun no hbad => ?range, fun hok => ⟨fun hdup => ?duplicate, fun hnew hfull => ?full, fun hnew hroom => ?accepted⟩⟩
  case range => rw [hexec, submitJob_of_badField (s := s.dequeue) hbad, State.dequeue_answer]
  case duplicate => rw [hexec, submitJob_of_duplicate (s := s.dequeue) hok hdup, State.dequeue_answer]
  case full => rw [hexec, submitJob_of_tableFull (s := s.dequeue) hok hnew hfull, State.dequeue_answer]
  case accepted =>
    rw [submitJob_of_accepted (s := s.dequeue) hok hnew hroom] at hexec
    have hquiet (h : react (s.dequeue.acceptJob f (jobOfBody f.body)) = none) := State.finish_of_quiet h ▸ hexec
    exact ⟨s.dequeue.acceptJob f (jobOfBody f.body), hexec, hquiet,
      s.dequeue_acceptJob_sameBut f _, s.dequeue.acceptJob_jobs f _, s.dequeue_acceptJob_link f _⟩

end Sys2Proof.Machine
end

section
/-! PLAN_DONE and PLAN_REFUSED (R27, R41): what a bank holds after a write to it and to the other bank, the planning result
of the operation in progress, and the two outcomes. -/
namespace Sys2Proof.Machine

/-! ### Banks -/

@[simp] theorem State.setBank_bank_same (s : State) (bk : BankId) (x : Bank) : (s.setBank bk x).bank bk = x := by
  cases bk <;> rfl

theorem State.setBank_bank_of_ne (s : State) (x : Bank) :
    ∀ {bk other : BankId}, other ≠ bk → (s.setBank bk x).bank other = s.bank other
  | .a, .b, _ => rfl
  | .b, .a, _ => rfl
  | .a, .a, h => absurd rfl h
  | .b, .b, h => absurd rfl h

@[simp] theorem State.setPlanner_bank (s : State) (op : Option PlanOp) (bk : BankId) :
    (s.setPlanner op).bank bk = s.bank bk := rfl

@[simp] theorem State.notify_bank (s : State) (n : Notice) (bk : BankId) : (s.notify n).bank bk = s.bank bk := rfl

@[simp] theorem State.dropEntry_bank (s : State) (n : Nat) (bk : BankId) : (s.dropEntry n).bank bk = s.bank bk := rfl

@[simp] theorem State.moveJob_bank (s : State) (n : Nat) (st : JobState) (why : JobReason) (bk : BankId) :
    (s.moveJob n st why).bank bk = s.bank bk := rfl

/-! ### The planning result -/

theorem State.planOutcome_of_idle {s : State} (h : s.planner = none) : s.planOutcome = none := by
  simp [State.planOutcome, h]

theorem State.planOutcome_of_entry {s : State} {op : PlanOp} {e : JobEntry} (hop : s.planner = some op)
    (he : s.entry op.job = some e) : s.planOutcome = some (op, planResult e.record op.consts) := by
  simp [State.planOutcome, hop, he]

theorem exec_planDone_of_done {s : State} {op : PlanOp} {steps : List CutStep}
    (h : s.planOutcome = some (op, .done steps)) : exec .planDone s = .next (s.planReady op steps).finish := by
  simp only [exec, execPlanDone, h]

theorem exec_planRefused_of_refused {s : State} {op : PlanOp} {why : JobReason}
    (h : s.planOutcome = some (op, .refused why)) : exec .planRefused s = .next (s.planRefuse op why).finish := by
  simp only [exec, execPlanRefused, h]

theorem exec_planDone_of_none {s : State} (h : s.planOutcome = none) : exec .planDone s = .next s.finish := by
  simp only [exec, execPlanDone, h]

theorem exec_planRefused_of_none {s : State} (h : s.planOutcome = none) : exec .planRefused s = .next s.finish := by
  simp only [exec, execPlanRefused, h]

/-! ### PLAN_DONE: the job PLANNED, its bank READY -/

theorem State.planReady_sameBut (s : State) (op : PlanOp) (steps : List CutStep) :
    SameBut [.link, .jobs, .planner, .bankA, .bankB] s (s.planReady op steps) := by
  simp [SameBut]

theorem State.planReady_planner (s : State) (op : PlanOp) (steps : List CutStep) :
    (s.planReady op steps).planner = none := by
  simp [State.planReady]

theorem State.planReady_bank_same (s : State) (op : PlanOp) (steps : List CutStep) :
    (s.planReady op steps).bank op.bank =
      { s.bank op.bank with state := .ready, stepCount := steps.length, steps := steps } := by
  simp [State.planReady]

theorem State.planReady_bank_of_ne (s : State) (op : PlanOp) (steps : List CutStep) {other : BankId}
    (h : other ≠ op.bank) : (s.planReady op steps).bank other = s.bank other := by
  simp [State.planReady, State.setBank_bank_of_ne _ _ h]

theorem State.planReady_jobs (s : State) (op : PlanOp) (steps : List CutStep) :
    (s.planReady op steps).jobs =
      s.jobs.map fun x => if x.record.number = op.job then { x with state := .planned } else x := by
  simp [State.planReady, State.moveJob, State.onEntry]

theorem State.planReady_link (s : State) (op : PlanOp) (steps : List CutStep) :
    (s.planReady op steps).link = s.link.offer (.job op.job .planned .none) := by
  simp [State.planReady, State.moveJob]

/-! ### PLAN_REFUSED: the job gone, its bank EMPTY -/

theorem State.planRefuse_sameBut (s : State) (op : PlanOp) (why : JobReason) :
    SameBut [.link, .jobs, .planner, .bankA, .bankB] s (s.planRefuse op why) := by
  simp [SameBut]

theorem State.planRefuse_planner (s : State) (op : PlanOp) (why : JobReason) :
    (s.planRefuse op why).planner = none := by
  simp [State.planRefuse]

theorem State.planRefuse_bank_same (s : State) (op : PlanOp) (why : JobReason) :
    (s.planRefuse op why).bank op.bank = Bank.cleared := by
  simp [State.planRefuse, State.emptyBank]

theorem State.planRefuse_bank_of_ne (s : State) (op : PlanOp) (why : JobReason) {other : BankId}
    (h : other ≠ op.bank) : (s.planRefuse op why).bank other = s.bank other := by
  simp [State.planRefuse, State.emptyBank, State.setBank_bank_of_ne _ _ h]

theorem State.planRefuse_jobs (s : State) (op : PlanOp) (why : JobReason) :
    (s.planRefuse op why).jobs = s.jobs.filter fun x => x.record.number ≠ op.job := by
  simp [State.planRefuse, State.dropEntry]

theorem State.planRefuse_link (s : State) (op : PlanOp) (why : JobReason) :
    (s.planRefuse op why).link = s.link.offer (.job op.job .refused why) := by
  simp [State.planRefuse]

/-- Settles O24: the planning result chooses the outcome, and the outcome's operation gives each field. -/
theorem planningCompletions : Obligations.PlanningCompletions := by
  intro s
  refine ⟨fun op e steps hop he hdone => ?done, fun op e why hop he hrefused => ?refused, fun hidle => ?idle⟩
  case done =>
    have hout : s.planOutcome = some (op, .done steps) := hdone ▸ State.planOutcome_of_entry hop he
    exact ⟨s.planReady op steps, exec_planDone_of_done hout, s.planReady_sameBut op steps, s.planReady_planner op steps,
      s.planReady_bank_same op steps, fun _ hne => s.planReady_bank_of_ne op steps hne, s.planReady_jobs op steps,
      s.planReady_link op steps⟩
  case refused =>
    have hout : s.planOutcome = some (op, .refused why) := hrefused ▸ State.planOutcome_of_entry hop he
    exact ⟨s.planRefuse op why, exec_planRefused_of_refused hout, s.planRefuse_sameBut op why,
      s.planRefuse_planner op why, s.planRefuse_bank_same op why, fun _ hne => s.planRefuse_bank_of_ne op why hne,
      s.planRefuse_jobs op why, s.planRefuse_link op why⟩
  case idle =>
    have hout := State.planOutcome_of_idle hidle
    exact ⟨exec_planDone_of_none hout, exec_planRefused_of_none hout⟩

end Sys2Proof.Machine
end

section
/-! The start of a move (R86 to R90): the draw offset's bound and clamp, the cut target as one bounded value, and the move
record that every start leaves in the gauge. -/
namespace Sys2Proof.Machine

/-! ### The draw offset (R87) -/

/-- At most 40 times 2,000, rounded at the half, is at most 80. -/
theorem drawOffset_le {c : Consts} {k : Nat} (hk : k ≤ 40) (hmax : c.hmax ≤ 2000) (h : Nat) : drawOffset c k h ≤ 80 := by
  have hprod : k * min h c.hmax ≤ 40 * 2000 := Nat.mul_le_mul hk ((Nat.min_le_right h c.hmax).trans hmax)
  unfold drawOffset
  omega

theorem drawOffset_of_hmax_le {c : Consts} {h : Nat} (k : Nat) (hh : c.hmax ≤ h) :
    drawOffset c k h = drawOffset c k c.hmax := by
  simp only [drawOffset, Nat.min_eq_right hh, Nat.min_self]

/-! ### The target (R88) -/

theorem cutTarget_fst (c : Consts) (plate : Bool) (n h k : Nat) :
    (cutTarget c plate n h k).1 =
      if (c.gmax : Int) < n + drawOffset c k h + c.kc then (c.gmax : Int)
      else if (n : Int) + drawOffset c k h + c.kc < gminEff c plate then (gminEff c plate : Int)
      else n + drawOffset c k h + c.kc := by
  simp only [cutTarget]
  split
  · rfl
  · split <;> rfl

/-! ### The move record at the start (R86, R90) -/

@[simp] theorem Gauge.go_move (g : Gauge) (paused : Bool) (ph : MovePhase) : (g.go paused ph).move = g.move := rfl

@[simp] theorem Gauge.settleOn_move (g : Gauge) (m : Move) : (g.settleOn m).move = g.move := rfl

/-- Whichever way the axis sets out, it holds the move with the overshoot point as seen from where it stands. -/
theorem Gauge.travel_move (g : Gauge) (m : Move) (paused : Bool) :
    (g.travel m paused).move =
      some { m with overshoot := overshootPoint g.position m.target m.backlash m.gmax } := by
  simp only [Gauge.travel]
  split
  · rw [Gauge.go_move]
  · split
    · rw [Gauge.go_move]
    · rw [Gauge.settleOn_move]

theorem State.startMove_move (s : State) (req : MoveReq) :
    (s.startMove req).gauge.move =
      some (moveOf s.store.consts (s.on .plateFitted) s.gauge.position req) := by
  simp only [State.startMove, setGauge_gauge, Gauge.travel_move]
  rfl

theorem State.startMove_sameBut (s : State) (req : MoveReq) : SameBut [.gauge] s (s.startMove req) := by
  simp [SameBut]

/-- Settles O27: the offset's bound and clamp, and the target of the move record that the start leaves in the gauge. -/
theorem drawOffsetRoundsHalfUp : Obligations.DrawOffsetRoundsHalfUp := by
  intro s c k h
  refine ⟨rfl, fun hk hmax => drawOffset_le hk hmax h, drawOffset_of_hmax_le k, fun n => ⟨s.startMove_sameBut _, ?target⟩⟩
  case target =>
    have hmove : (s.startMove (.cut n h k)).gauge.move.map Move.target =
        some (cutTarget s.store.consts (s.on .plateFitted) n h k).1 := by
      rw [State.startMove_move]
      rfl
    rw [hmove, cutTarget_fst]
    rfl

end Sys2Proof.Machine
end

section
/-! The division of a pile into lifts (R131): the ceiling as a bound, the height limit, the count as a number of lifts that
holds the pile, and the heights the division gives. -/
namespace Sys2Proof.Machine

/-! ### The ceiling -/

theorem le_mul_ceilDiv (p : Nat) {h : Nat} (hh : 0 < h) : p ≤ h * ceilDiv p h := le_smul_ceilDiv (b := p) hh

theorem ceilDiv_le_iff {p h k : Nat} (hh : 0 < h) : ceilDiv p h ≤ k ↔ p ≤ h * k := ceilDiv_le_iff_le_mul hh

theorem ceilDiv_eq_ite (p : Nat) {h : Nat} (hh : 0 < h) :
    ceilDiv p h = if p % h = 0 then p / h else p / h + 1 := by
  have hrest := Nat.mod_lt p hh
  have hsplit : p + h - 1 = h * (p / h) + (p % h + h - 1) := by
    have := Nat.div_add_mod p h
    omega
  rw [ceilDiv, hsplit, Nat.mul_add_div hh]
  split
  next hzero =>
    have hnone : (p % h + h - 1) / h = 0 := Nat.div_eq_of_lt (by omega)
    rw [hnone, Nat.add_zero]
  next hpos =>
    have hone : (p % h + h - 1) / h = 1 := Nat.div_eq_of_lt_le (by omega) (by omega)
    rw [hone]

/-! ### The height limit -/

theorem heightLimit_eq_ite (hmax : Nat) (r : JobRecord) :
    heightLimit hmax r = if r.fixedCount.isSome then hmax else min r.liftHeight hmax := by
  unfold heightLimit
  cases r.fixedCount <;> rfl

theorem heightLimit_le (hmax : Nat) (r : JobRecord) : heightLimit hmax r ≤ hmax := by
  rw [heightLimit_eq_ite]
  split
  · exact le_rfl
  · exact Nat.min_le_right _ _

theorem heightLimit_pos {hmax : Nat} {r : JobRecord} (hm : 0 < hmax) (hl : 0 < r.liftHeight) : 0 < heightLimit hmax r := by
  rw [heightLimit_eq_ite]
  split
  · exact hm
  · exact Nat.lt_min.mpr ⟨hl, hm⟩

/-! ### The lift count -/

theorem liftCount_of_fixed {r : JobRecord} {n : Nat} (hfixed : r.fixedCount = some n) (p hd : Nat) :
    liftCount r p hd = min 64 (if n * hd < p then ceilDiv p hd else n) := by
  rw [liftCount, hfixed, min_comm]
  rfl

theorem liftCount_of_none {r : JobRecord} (hnone : r.fixedCount = none) (p hd : Nat) :
    liftCount r p hd = min 64 (ceilDiv p hd) := by
  rw [liftCount, hnone, min_comm]
  rfl

/-- Before the cut to 64 the count is always a number of lifts that holds the pile within the limit, for a fixed count
because it is raised where it does not. -/
theorem exists_liftCount (r : JobRecord) (p : Nat) {hd : Nat} (hpos : 0 < hd) :
    ∃ n, liftCount r p hd = min 64 n ∧ p ≤ n * hd := by
  have hceil : p ≤ ceilDiv p hd * hd := Nat.mul_comm hd _ ▸ le_mul_ceilDiv p hpos
  cases hcount : r.fixedCount with
  | none => exact ⟨_, liftCount_of_none hcount p hd, hceil⟩
  | some n =>
    refine ⟨_, liftCount_of_fixed hcount p hd, ?_⟩
    split
    next => exact hceil
    next hfits => exact Nat.not_lt.mp hfits

theorem liftCount_pos (r : JobRecord) {p hd : Nat} (hp : 0 < p) (hpos : 0 < hd) : 0 < liftCount r p hd := by
  obtain ⟨n, hcount, hfits⟩ := exists_liftCount r p hpos
  rw [hcount]
  exact Nat.lt_min.mpr ⟨by decide, Nat.pos_of_mul_pos_right (hp.trans_le hfits)⟩

/-- The lifts hold the pile within Hmax: 64 of them do because 64 times 250 is the tallest pile. -/
theorem le_liftCount_mul (r : JobRecord) {p hd hmax : Nat} (hpos : 0 < hd) (hle : hd ≤ hmax) (hmin : 250 ≤ hmax)
    (hp : p ≤ 16000) : p ≤ liftCount r p hd * hmax := by
  obtain ⟨n, hcount, hfits⟩ := exists_liftCount r p hpos
  rw [hcount]
  rcases min_choice 64 n with hcut | hall
  · rw [hcut]
    omega
  · rw [hall]
    exact hfits.trans (Nat.mul_le_mul_left n hle)

/-! ### The heights of the division -/

/-- The highest lift of a division, which is the one aimed for, is the remaining height over the lifts, rounded up. -/
theorem PileRec.divide_aim (q : PileRec) {m : Nat} (hm : 0 < m) : (q.divide m).aim = ceilDiv q.remaining m := by
  rw [ceilDiv_eq_ite q.remaining hm]
  simp only [PileRec.aim, PileRec.divide, Nat.pos_iff_ne_zero, ite_not]

/-- Lifts that hold the remaining height within `h` are, divided, none above `h`. -/
theorem PileRec.divide_aim_le {q : PileRec} {m h : Nat} (hm : 0 < m) (hfits : q.remaining ≤ m * h) :
    (q.divide m).aim ≤ h :=
  q.divide_aim hm ▸ (ceilDiv_le_iff hm).mpr hfits

/-- The `r` lifts of `base + 1` and the others of `base` make up the height divided. -/
theorem lifts_sum (p : Nat) {n : Nat} (hn : 0 < n) : p % n * (p / n + 1) + (n - p % n) * (p / n) = p := by
  have hrest : p % n + (n - p % n) = n := Nat.add_sub_cancel' (Nat.mod_lt p hn).le
  calc
    p % n * (p / n + 1) + (n - p % n) * (p / n) = (p % n + (n - p % n)) * (p / n) + p % n := by ring
    _ = p := by rw [hrest, Nat.div_add_mod]

/-- Settles O29: the limit and the count by their equations; the heights because the lifts counted hold the pile. -/
theorem pileDivision : Obligations.PileDivision := by
  intro r hmax p hmaxLow hpLow hpHigh hlift _ q ceil
  have hlimit : 0 < heightLimit hmax r := heightLimit_pos (by omega) (by omega)
  have hcount : 0 < q.count := liftCount_pos r (by omega) hlimit
  have hholds : p ≤ q.count * hmax :=
    le_liftCount_mul r hlimit (heightLimit_le hmax r) (by omega) hpHigh
  refine ⟨heightLimit_eq_ite hmax r, ?count, rfl, rfl, rfl, rfl, rfl, lifts_sum p hcount,
    PileRec.divide_aim_le hcount hholds, rfl⟩
  case count =>
    cases hfixed : r.fixedCount with
    | none =>
      have hd : heightLimit hmax r = min r.liftHeight hmax := by simp [heightLimit_eq_ite, hfixed]
      calc
        q.count = min 64 (ceilDiv p (heightLimit hmax r)) := liftCount_of_none hfixed p _
        _ = min 64 (ceil p (min r.liftHeight hmax)) := by rw [ceilDiv_eq_ite p hlimit, hd]
    | some n =>
      have hd : heightLimit hmax r = hmax := by simp [heightLimit_eq_ite, hfixed]
      calc
        q.count = min 64 (if n * heightLimit hmax r < p then ceilDiv p (heightLimit hmax r) else n) :=
          liftCount_of_fixed hfixed p _
        _ = min 64 (if n * hmax < p then ceil p hmax else n) := by rw [ceilDiv_eq_ite p hlimit, hd]

end Sys2Proof.Machine
end

section
/-! The shape of every command: an effect of its own, then the end of a command, with or without the settling. -/
namespace Sys2Proof.Machine

/-- What a command does of itself, before the part settles and the transmitter chooses. -/
def ownEffect (c : Instr) (s : State) : State :=
  match c with
  | .powerOnReset contacts signals => s.powerReset (seedInputs (rawLevel contacts)) (readSignals signals)
  | .frameReceived bad kind tag body crc =>
    if goodFrame bad kind tag body crc then s.hunt.offerFrame ⟨kind, tag, body⟩ else s.hunt
  | .gapTimeout => if s.link.rx.state = .hunt then s else s.hunt
  | .frameSent => if s.link.restartSent then s.restartReset else s.setLink s.link.sent
  | .requestUnknown =>
    match s.link.requests with
    | f :: _ => if s.link.serving && !knownKind f.kind then s.dequeue.answer f .unknown 0 [] else s
    | [] => s
  | .submit => s.serve 0x01#8 36 submitJob
  | .withdraw => s.serve 0x02#8 2 withdrawJob
  | .jobInfo => s.serve 0x03#8 2 reportJob
  | .lineInfo => s.serve 0x04#8 0 reportLine
  | .hold => s.serve 0x05#8 0 setHold
  | .resume => s.serve 0x06#8 0 clearHold
  | .admitLevel => s.serve 0x07#8 1 setLevel
  | .clear view => s.serve 0x08#8 0 (clearRequest view)
  | .reference => s.serve 0x09#8 0 referenceRequest
  | .classSet => s.serve 0x0A#8 7 classWrite
  | .classGet => s.serve 0x0B#8 1 classRead
  | .constSet serviceKey => s.serve 0x0C#8 5 (constWrite serviceKey)
  | .constGet => s.serve 0x0D#8 1 constRead
  | .noticeMode => s.serve 0x0E#8 2 setMode
  | .rearm => s.serve 0x0F#8 1 rearmClass
  | .restart => s.serve 0x10#8 0 restartRequest
  | .storeWriteComplete =>
    match s.store.write with
    | some w => s.completeWrite w
    | none => s
  | .planDone =>
    match s.planOutcome with
    | some (op, .done steps) => s.planReady op steps
    | some (_, .refused _) => s
    | none => s
  | .planRefused =>
    match s.planOutcome with
    | some (op, .refused why) => s.planRefuse op why
    | some (_, .done _) => s
    | none => s
  | .eStopOpen => (s.sense .eStop true).latch .eStop
  | .eStopReleased => s.sense .eStop false
  | .curtainBroken => s.breakCurtain
  | .curtainClear => s.clearCurtain
  | .gaugeCurtainClearExpiry =>
    if s.gauge.state = .paused && s.gauge.clearTimer.running then s.setGauge s.gauge.resume else s
  | .pusherCurtainClearExpiry =>
    if s.jogger.paused && s.jogger.clearTimer.running then s.setJogger s.jogger.resume else s
  | .handPress hand => (s.sense (handSwitch hand) true).pressHand
  | .handRelease hand =>
    let s := (s.sense (handSwitch hand) false).releaseHand
    s.setCycle (s.cycle.refresh (s.on .handL) (s.on .handR))
  | .windowExpiry => if s.cycle.monitor = .one then s.setCycle (s.cycle.setMonitor .spent) else s
  | .stepOk widthProbe =>
    ((s.sense .stepOk true).setChannels { s.channels with widthProbe := widthProbe }).stepOk widthProbe
  | .jogOk liftPresent => ((s.sense .jogOk true).sense .liftPresent liftPresent).jogOk.dropJogFailed
  | .resetBtn view => ((s.sense .resetBtn true).view view).clearFaults
  | .homeSwitchActive => (s.sense .homeSwitch true).setGauge s.gauge.homeReached
  | .encoderStep dir =>
    let t := s.setGauge (s.gauge.count dir)
    if t.plateCrossed s.gauge.position then t.latch .plateRemoved else t
  | .settleExpiry => s.checkPosition
  | .searchLimitExpiry =>
    if s.gauge.state = .referencing && s.gauge.phase = some .search then s.axisFault .referenceFail false else s
  | .encoderStall => if s.gauge.stallTimer.running then s.axisFault .encoderStall false else s
  | .clampPressureActive clampHeight =>
    ((s.sense .clampPressure true).setChannels { s.channels with clampHeight := clampHeight }).reachPressure
  | .clampPressureInactive =>
    let t := s.sense .clampPressure false
    if s.cycle.height.isSome then t.abortCycle false else t
  | .clampBottom clampHeight =>
    let t := s.setChannels { s.channels with clampHeight := clampHeight }
    if s.cycle.state = .clamping && clampHeight ≤ clampBottomTenths then
      (t.setCycle { s.cycle with state := .unclamp, faulted := true }).latch .noStack
    else t
  | .dwellExpiry => s.endDwell
  | .entryPoint knifeHeight =>
    let t := s.setChannels { s.channels with knifeHeight := knifeHeight }
    if s.cycle.state = .strokeDown && s.cycle.entered knifeHeight then
      t.setCycle { s.cycle with entryPassed := true }
    else t
  | .knifeBottomActive =>
    let t := s.sense .knifeBottom true
    if s.cycle.state = .strokeDown then
      (t.setCycle { s.cycle with state := .strokeUp, counted := true }).completeCut (s.cycle.height.getD 0)
    else t
  | .knifeTopActive =>
    let t := s.sense .knifeTop true
    if s.cycle.state = .strokeUp then t.setCycle { s.cycle with state := .unclamp } else t
  | .clampTopActive => (s.sense .clampTop true).clampHome
  | .plateFittedActive => s.sense .plateFitted true
  | .plateFittedInactive =>
    let t := s.sense .plateFitted false
    if s.plateLost then t.latch .plateRemoved else t
  | .frontClearActive => s.sense .frontClear true
  | .loadInPlaceActive => (s.sense .loadInPlace true).liftInPlace
  | .loadInPlaceInactive => s.sense .loadInPlace false
  | .pilePresentActive pileTop => ((s.sense .pilePresent true).readPile pileTop).pileArrives pileTop
  | .pilePresentInactive => (s.sense .pilePresent false).pileLeaves
  | .reamHeldInactive => s.sense .reamHeld false
  | .motionDone unit reamHeld pileTop =>
    let t := ((s.sense (unitDone unit) true).sense .reamHeld reamHeld).readPile pileTop
    if s.arbiter.holder = some (unitRequester unit) then
      match unit with
      | .turner => t.turnerMotionDone
      | .lift => t.liftMotionDone
    else t
  | .motionTimerExpiry unit => if (s.infeed.timerOf unit).running then s.latch .motionTimeout else s
  | .pusherHomeActive => (s.sense .pusherHome true).setJogger s.jogger.home
  | .edgeScanEnd pulses =>
    match s.jogger.state, s.jogger.scan with
    | .jogging, some r => s.endScan r pulses
    | _, _ => s
  | .jogTimerExpiry => if s.jogger.state = .jogging && s.jogger.jogTimer.running then s.jogTimeout else s
  | .transferTimerExpiry =>
    if s.jogger.phase = .push && s.pusherOutput = .forward then s.transferTimeout else s
  | .hydReadyActive =>
    let t := s.sense .hydReady true
    if s.arbiter.unit = .unavailable then t.setArbiter { s.arbiter with unit := .free } else t
  | .hydReadyInactive =>
    let t := s.sense .hydReady false
    match s.arbiter.unit with
    | .held => t.latch .hydPressure
    | .free => t.setArbiter { s.arbiter with unit := .unavailable }
    | .unavailable => t
  | .lenAbove240 => if s.link.rx.state = .header then s.hunt else s

/-- Every command is its own effect and the end of a command: with the settling, or with the transmitter's choice alone. -/
theorem exec_cases (c : Instr) (s : State) :
    exec c s = .next (ownEffect c s).finish ∨ exec c s = .next (ownEffect c s).transmit := by
  cases c
  case frameSent =>
    simp only [exec, execFrameSent, ownEffect]
    split
    · exact .inl rfl
    · exact .inr rfl
  case requestUnknown =>
    simp only [exec, execRequestUnknown, ownEffect]
    generalize s.link.requests = queue
    cases queue <;> exact .inr rfl
  case storeWriteComplete =>
    simp only [exec, execStoreWriteComplete, ownEffect]
    generalize s.store.write = write
    cases write <;> exact .inr rfl
  case planDone =>
    simp only [exec, execPlanDone, ownEffect]
    generalize s.planOutcome = outcome
    rcases outcome with _ | ⟨_, _ | _⟩ <;> exact .inl rfl
  case planRefused =>
    simp only [exec, execPlanRefused, ownEffect]
    generalize s.planOutcome = outcome
    rcases outcome with _ | ⟨_, _ | _⟩ <;> exact .inl rfl
  case powerOnReset | submit | withdraw | resume | admitLevel | clear | handPress | stepOk | jogOk | resetBtn | settleExpiry |
      clampTopActive | plateFittedActive | frontClearActive | loadInPlaceActive | loadInPlaceInactive | pilePresentActive |
      pilePresentInactive | reamHeldInactive | motionDone | motionTimerExpiry | pusherHomeActive | edgeScanEnd |
      hydReadyActive => exact .inl rfl
  all_goals exact .inr rfl

/-- The next state of a command, by way of its own effect. -/
theorem exec_next {c : Instr} {s t : State} (h : exec c s = .next t) :
    t = (ownEffect c s).finish ∨ t = (ownEffect c s).transmit := by
  rcases exec_cases c s with e | e
  · exact .inl (Host.Outcome.next.inj (h.symm.trans e))
  · exact .inr (Host.Outcome.next.inj (h.symm.trans e))

/-- What a step is: a command of the queue run on the queue's rest, or, on an empty queue, a command put in it, a byte taken,
or a millisecond. -/
theorem step_cases {s t : State} (h : step s = .next t) :
    (∃ c rest, s.pending = c :: rest ∧ exec c (s.setPending rest) = .next t) ∨ (∃ q, t = s.setPending q) ∨
      t = s.takeByte ∨ t = s.tick := by
  unfold step at h
  split at h
  · next c rest hq => exact .inl ⟨c, rest, hq, h⟩
  · cases h
    unfold State.idleStep
    right
    split
    · exact .inl ⟨_, rfl⟩
    · split
      · exact .inr (.inl rfl)
      · split
        · exact .inl ⟨_, rfl⟩
        · exact .inr (.inr rfl)

/-- A property that every reaction keeps, as the first one due, is kept by settling. -/
theorem settle_keeps_of_react (P : State → Prop) (reacts : ∀ s t, P s → react s = some t → P t) (s : State) (hs : P s) :
    P s.settle := by
  suffices h : ∀ (n : Nat) (s : State), P s → P (settleN n s) from h 64 s hs
  intro n
  induction n with
  | zero => exact fun s hs => hs
  | succ n ih =>
    intro s hs
    unfold settleN
    split
    · next t ht => exact ih t (reacts s t hs ht)
    · exact hs

/-- A property is kept by every command if every own effect, every reaction and the transmitter's choice keep it. -/
theorem exec_keeps (P : State → Prop) (own : ∀ c s, P s → P (ownEffect c s)) (reacts : ∀ s t, P s → react s = some t → P t)
    (sends : ∀ s, P s → P s.transmit) {c : Instr} {s t : State} (hs : P s) (h : exec c s = .next t) : P t := by
  rcases exec_next h with rfl | rfl
  · exact sends _ (settle_keeps_of_react P reacts _ (own c s hs))
  · exact sends _ (own c s hs)

/-- A property is kept by every step if besides it is kept by the queue's changes, a byte taken and a millisecond. -/
theorem step_keeps (P : State → Prop) (own : ∀ c s, P s → P (ownEffect c s)) (reacts : ∀ s t, P s → react s = some t → P t)
    (sends : ∀ s, P s → P s.transmit) (queue : ∀ s q, P s → P (s.setPending q)) (takes : ∀ s, P s → P s.takeByte)
    (ticks : ∀ s, P s → P s.tick) {s t : State} (hs : P s) (h : step s = .next t) : P t := by
  rcases step_cases h with ⟨c, rest, -, h⟩ | ⟨q, rfl⟩ | rfl | rfl
  · exact exec_keeps P own reacts sends (queue s rest hs) h
  · exact queue s q hs
  · exact takes s hs
  · exact ticks s hs

/-- What a millisecond leaves alone. -/
@[simp] theorem State.tick_frame (s : State) :
    s.tick.jobs = s.jobs ∧ s.tick.admission = s.admission ∧ s.tick.bankA = s.bankA ∧ s.tick.bankB = s.bankB ∧
      s.tick.runner = s.runner ∧ s.tick.faults = s.faults ∧ s.tick.free = s.free := by
  unfold State.tick State.sampleField
  split <;> simp

/-! ### What a comparison of two states gives, field by field -/

namespace SameBut

variable {ps : List Part} {s t : State} (h : SameBut ps s t)
include h

theorem link (hp : Part.link ∉ ps := by decide) : t.link = s.link := h.1.resolve_left hp

theorem jobs (hp : Part.jobs ∉ ps := by decide) : t.jobs = s.jobs := h.2.1.resolve_left hp

theorem admission (hp : Part.admission ∉ ps := by decide) : t.admission = s.admission := h.2.2.1.resolve_left hp

theorem planner (hp : Part.planner ∉ ps := by decide) : t.planner = s.planner := h.2.2.2.1.resolve_left hp

theorem bankA (hp : Part.bankA ∉ ps := by decide) : t.bankA = s.bankA := h.2.2.2.2.1.resolve_left hp

theorem bankB (hp : Part.bankB ∉ ps := by decide) : t.bankB = s.bankB := h.2.2.2.2.2.1.resolve_left hp

theorem runner (hp : Part.runner ∉ ps := by decide) : t.runner = s.runner := h.2.2.2.2.2.2.1.resolve_left hp

theorem gauge (hp : Part.gauge ∉ ps := by decide) : t.gauge = s.gauge := h.2.2.2.2.2.2.2.1.resolve_left hp

theorem cycle (hp : Part.cycle ∉ ps := by decide) : t.cycle = s.cycle := h.2.2.2.2.2.2.2.2.1.resolve_left hp

theorem infeed (hp : Part.infeed ∉ ps := by decide) : t.infeed = s.infeed := h.2.2.2.2.2.2.2.2.2.1.resolve_left hp

theorem jogger (hp : Part.jogger ∉ ps := by decide) : t.jogger = s.jogger := h.2.2.2.2.2.2.2.2.2.2.1.resolve_left hp

theorem arbiter (hp : Part.arbiter ∉ ps := by decide) : t.arbiter = s.arbiter := h.2.2.2.2.2.2.2.2.2.2.2.1.resolve_left hp

theorem inputs (hp : Part.inputs ∉ ps := by decide) : t.inputs = s.inputs := h.2.2.2.2.2.2.2.2.2.2.2.2.1.resolve_left hp

theorem channels (hp : Part.channels ∉ ps := by decide) : t.channels = s.channels := h.2.2.2.2.2.2.2.2.2.2.2.2.2.1.resolve_left hp

theorem faults (hp : Part.faults ∉ ps := by decide) : t.faults = s.faults := h.2.2.2.2.2.2.2.2.2.2.2.2.2.2.1.resolve_left hp

theorem store (hp : Part.store ∉ ps := by decide) : t.store = s.store := h.2.2.2.2.2.2.2.2.2.2.2.2.2.2.2.1.resolve_left hp

theorem free (hp : Part.free ∉ ps := by decide) : t.free = s.free := h.2.2.2.2.2.2.2.2.2.2.2.2.2.2.2.2.1.resolve_left hp

theorem pending (hp : Part.pending ∉ ps := by decide) : t.pending = s.pending := h.2.2.2.2.2.2.2.2.2.2.2.2.2.2.2.2.2.1.resolve_left hp

theorem tape (hp : Part.tape ∉ ps := by decide) : t.tape = s.tape := h.2.2.2.2.2.2.2.2.2.2.2.2.2.2.2.2.2.2.resolve_left hp

theorem on (x : Switch) (hp : Part.inputs ∉ ps := by decide) : t.on x = s.on x := by
  rw [State.on, State.on, h.inputs hp]

/-- More parts may differ. -/
theorem mono {qs : List Part} (sub : ∀ p ∈ ps, p ∈ qs := by decide) : SameBut qs s t := by
  unfold SameBut at h ⊢
  obtain ⟨link, jobs, admission, planner, bankA, bankB, runner, gauge, cycle, infeed, jogger, arbiter, inputs, channels,
    faults, store, free, pending, tape⟩ := h
  exact ⟨link.imp_left (sub _), jobs.imp_left (sub _), admission.imp_left (sub _), planner.imp_left (sub _), bankA.imp_left
      (sub _), bankB.imp_left (sub _), runner.imp_left (sub _), gauge.imp_left (sub _), cycle.imp_left (sub _),
    infeed.imp_left (sub _), jogger.imp_left (sub _), arbiter.imp_left (sub _), inputs.imp_left (sub _), channels.imp_left
      (sub _), faults.imp_left (sub _), store.imp_left (sub _), free.imp_left (sub _), pending.imp_left (sub _),
    tape.imp_left (sub _)⟩

/-- One comparison after another. -/
theorem trans {u : State} (k : SameBut ps t u) : SameBut ps s u := by
  have chain : ∀ {p : Prop} {α : Type} {a b c : α}, p ∨ b = a → p ∨ c = b → p ∨ c = a := fun first second =>
    first.elim .inl fun e => second.imp id fun e' => e'.trans e
  unfold SameBut at h k ⊢
  obtain ⟨link, jobs, admission, planner, bankA, bankB, runner, gauge, cycle, infeed, jogger, arbiter, inputs, channels,
    faults, store, free, pending, tape⟩ := h
  obtain ⟨link', jobs', admission', planner', bankA', bankB', runner', gauge', cycle', infeed', jogger', arbiter', inputs',
    channels', faults', store', free', pending', tape'⟩ := k
  exact ⟨chain link link', chain jobs jobs', chain admission admission', chain planner planner', chain bankA bankA', chain
    bankB bankB', chain runner runner', chain gauge gauge', chain cycle cycle', chain infeed infeed', chain jogger jogger',
    chain arbiter arbiter', chain inputs inputs', chain channels channels', chain faults faults', chain store store', chain
    free free', chain pending pending', chain tape tape'⟩

end SameBut

/-- Settles O1: the first arm of `step`. -/
theorem stepRunsTheFrontCommand : Obligations.StepRunsTheFrontCommand := by
  intro c rest s h
  simp only [step, h]

/-- The samples and the queue of the field are no command's. -/
theorem ownEffect_frame (c : Instr) (s : State) :
    (ownEffect c s).pending = s.pending ∧ (ownEffect c s).tape = s.tape := by
  cases c
  case powerOnReset => simp [ownEffect, State.powerReset, State.blocksReset]
  case frameSent =>
    simp only [ownEffect]
    split <;> simp [State.restartReset, State.blocksReset]
  all_goals
    simp only [ownEffect, State.serve]
    repeat' split
    all_goals simp

/-- Settles O41: by the shape of a command. -/
theorem everyCommandCompletes : Obligations.EveryCommandCompletes := by
  intro c s
  obtain ⟨pending, tape⟩ := ownEffect_frame c s
  rcases exec_cases c s with h | h
  · exact ⟨_, h, by simp [pending], by simp [tape]⟩
  · exact ⟨_, h, by simp [pending], by simp [tape]⟩

end Sys2Proof.Machine
end

section
/-! What each reaction of several effects can answer: one lemma for each, so that no later proof opens it. -/
namespace Sys2Proof.Machine

variable {s t : State}

theorem hydGrant_cases (h : hydGrant s = some t) :
    (s.arbiter.choose (s.store.consts.agingLimit * 100) = some .cut ∧ t = (s.setArbiter (s.arbiter.grant .cut)).grantCut) ∨
      (s.arbiter.choose (s.store.consts.agingLimit * 100) = some .lift ∧
        t = (s.setArbiter (s.arbiter.grant .lift)).grantLift) ∨
      (s.arbiter.choose (s.store.consts.agingLimit * 100) = some .turn ∧
        t = (s.setArbiter (s.arbiter.grant .turn)).grantTurn) := by
  unfold hydGrant at h
  split at h
  · split at h <;> cases h <;> simp [*]
  · cases h

theorem cycleUnstop_cases (h : cycleUnstop s = some t) :
    (s.cycle.state = .stopped ∧ s.stop = false ∧ t = s.endCycle) ∨
      (s.cycle.state = .stopped ∧ s.stop = false ∧ t = s.setCycle { s.cycle with state := .returnNeeded }) := by
  unfold cycleUnstop at h
  split at h
  · next hc =>
    simp only [Bool.and_eq_true, decide_eq_true_eq, Bool.not_eq_true'] at hc
    split at h <;> cases h
    · exact .inl ⟨hc.1, hc.2, rfl⟩
    · exact .inr ⟨hc.1, hc.2, rfl⟩
  · cases h

theorem rejectedOver_cases (h : rejectedOver s = some t) :
    (∃ n, t = (s.setInfeed { s.infeed with rejected := false }).await (.pile n)) ∨
      t = s.setInfeed { s.infeed with rejected := false } := by
  unfold rejectedOver at h
  split at h
  · dsimp only at h
    split at h <;> cases h
    · exact .inl ⟨_, rfl⟩
    · exact .inr rfl
  · cases h

theorem emptyOccupied_some (h : emptyOccupied s = some t) :
    t = (s.setInfeed { s.infeed with turner := .clearance, rejected := false, unclamped := false }).await
      (.clearance .infeed) := by
  unfold emptyOccupied at h
  split at h <;> cases h
  rfl

theorem prepareLeave_cases (h : prepareLeave s = some t) :
    (∃ plate, t = (s.setRunner { s.runner with faultBack := false }).checkPlate plate) ∨ t = s.setPhase .positioning := by
  unfold prepareLeave at h
  repeat' split at h
  all_goals cases h
  · exact .inl ⟨_, rfl⟩
  · exact .inr rfl

theorem transferBegin_cases (h : transferBegin s = some t) : ∃ l, s.jogger.lift = some l ∧ t = s.beginTransfer l := by
  unfold transferBegin at h
  split at h
  · obtain ⟨l, hl, rfl⟩ := Option.map_eq_some_iff.1 h
    exact ⟨l, hl, rfl⟩
  · cases h

theorem pileBack_cases (h : pileBack s = some t) :
    (∃ p, t = s.resumeTurning p s.channels.pileTop) ∨ (∃ p, t = s.resumeReady p s.channels.pileTop) ∨
      t = s.setInfeed { s.infeed with pileLost := false } := by
  unfold pileBack at h
  split at h
  · split at h <;> cases h
    · exact .inl ⟨_, rfl⟩
    · exact .inr (.inl ⟨_, rfl⟩)
    · exact .inr (.inr rfl)
  · cases h

theorem takeawayEnd_cases (h : takeawayEnd s = some t) :
    ∃ x c, s.theStep = some x ∧ s.runner.cutoff = some c ∧ t = s.endTakeaway x c := by
  unfold takeawayEnd at h
  split at h
  · split at h <;> cases h
    exact ⟨_, _, ‹_›, ‹_›, rfl⟩
  · cases h

theorem takeEnd_cases (h : takeEnd s = some t) : ∃ x d, s.theStep = some x ∧ x.action = .take d ∧ t = s.endTake x d := by
  unfold takeEnd at h
  split at h
  · split at h
    · split at h <;> cases h
      exact ⟨_, _, ‹_›, ‹_›, rfl⟩
    · cases h
  · cases h

theorem displacement_cases (h : displacement s = some t) :
    ∃ w e, s.freeBank = none ∧ s.weakest = some w ∧ s.nextToPlan = some e ∧ w.record.priority < e.record.priority ∧
      t = s.displace w := by
  unfold displacement at h
  split at h
  · split at h <;> cases h
    exact ⟨_, _, ‹_›, ‹_›, ‹_›, ‹_›, rfl⟩
  · cases h

theorem planStart_cases (h : planStart s = some t) :
    ∃ bk e, s.planner = none ∧ s.freeBank = some bk ∧ s.nextToPlan = some e ∧ t = s.startPlan e bk := by
  unfold planStart at h
  split at h <;> cases h
  exact ⟨_, _, ‹_›, ‹_›, ‹_›, rfl⟩

theorem turnerCall_cases (h : turnerCall s = some t) :
    ∃ e, s.infeed.turner = .empty ∧ s.nextToCall = some e ∧ t = s.callJob e := by
  unfold turnerCall at h
  split at h <;> cases h
  exact ⟨_, ‹_›, ‹_›, rfl⟩

end Sys2Proof.Machine
end

section
/-! The Job Table's bounds (R20, R22, R25). But for SUBMIT, which looks for a place and for the number, no operation brings a
new number into the table: the numbers that stand are a sublist of those that stood. -/
namespace Sys2Proof.Machine

/-- The job numbers of a table, in its order. -/
def numbersOf (jobs : List JobEntry) : List Nat := jobs.map fun e => e.record.number

/-- A table holds numbers of `ns` only, in their order. -/
def Within (ns : List Nat) (jobs : List JobEntry) : Prop := (numbersOf jobs).Sublist ns

@[simp] theorem Within.rfl {jobs : List JobEntry} : Within (numbersOf jobs) jobs := .refl _

theorem State.tableBounded_iff (s : State) :
    s.tableBounded ↔ s.jobs.length ≤ 8 ∧ (numbersOf s.jobs).Nodup ∧ s.admission ≤ 7 := .rfl

/-- The bounds pass to a table without a new number. -/
theorem State.tableBounded_of_within {s t : State} (within : Within (numbersOf s.jobs) t.jobs)
    (admission : t.admission = s.admission ∨ t.admission ≤ 7) (h : s.tableBounded) : t.tableBounded := by
  rw [State.tableBounded_iff] at h ⊢
  obtain ⟨room, single, level⟩ := h
  refine ⟨?_, within.nodup single, admission.elim (· ▸ level) id⟩
  simpa [numbersOf] using within.length_le.trans (by simpa [numbersOf] using room)

section
variable {ns : List Nat} {u : State} (h : Within ns u.jobs)
include h

/-! ### Entries -/

@[simp] theorem Within.onEntry {n : Nat} {f : JobEntry → JobEntry} (hf : ∀ e, (f e).record = e.record) :
    Within ns (u.onEntry n f).jobs := by
  have e : numbersOf (u.onEntry n f).jobs = numbersOf u.jobs := by
    simp only [numbersOf, State.onEntry, setJobs_jobs, List.map_map]
    refine List.map_congr_left fun e _ => ?_
    simp only [Function.comp]
    split <;> simp [hf]
  rwa [Within, e]

@[simp] theorem Within.dropEntry {n : Nat} : Within ns (u.dropEntry n).jobs := (List.filter_sublist.map _).trans h

@[simp] theorem Within.moveJob {n : Nat} {st : JobState} {why : JobReason} : Within ns (u.moveJob n st why).jobs := by
  simp [State.moveJob, h]

@[simp] theorem Within.endJob {e : JobEntry} {st : JobState} {why : JobReason} : Within ns (u.endJob e st why).jobs := by
  simp [State.endJob, h]

@[simp] theorem Within.checkDone {n : Nat} : Within ns (u.checkDone n).jobs := by
  unfold State.checkDone
  (repeat' split) <;> simp [h]

@[simp] theorem Within.countLift {n : Nat} : Within ns (u.countLift n).jobs := by simp [State.countLift, h]

@[simp] theorem Within.setFinal {n count : Nat} : Within ns (u.setFinal n count).jobs := by simp [State.setFinal, h]

/-! ### Planning, the call, displacement -/

@[simp] theorem Within.startPlan {e : JobEntry} {bk : BankId} : Within ns (u.startPlan e bk).jobs := by
  simp [State.startPlan, h]

@[simp] theorem Within.callJob {e : JobEntry} : Within ns (u.callJob e).jobs := by
  have called := Within.moveJob (u := u.setInfeed { u.infeed with turner := .calling, called := some e.record.number }) h
    (n := e.record.number) (st := .called) (why := .none)
  simpa [State.callJob] using called

@[simp] theorem Within.displace {e : JobEntry} : Within ns (u.displace e).jobs := by
  unfold State.displace
  split <;> simp [h]

@[simp] theorem Within.planReady {op : PlanOp} {steps : List CutStep} : Within ns (u.planReady op steps).jobs := by
  simp [State.planReady, h]

@[simp] theorem Within.planRefuse {op : PlanOp} {why : JobReason} : Within ns (u.planRefuse op why).jobs := by
  simp [State.planRefuse, h]

/-! ### Steps and the end of a lift -/

@[simp] theorem Within.endLift : Within ns u.endLift.jobs := by
  unfold State.endLift
  split <;> simp [h]

@[simp] theorem Within.completeStep : Within ns u.completeStep.jobs := by
  unfold State.completeStep
  dsimp only
  split
  · simpa using h
  · split
    · exact h
    · exact .endLift h

@[simp] theorem Within.resumeHeld : Within ns u.resumeHeld.jobs := by
  unfold State.resumeHeld
  (repeat' split) <;> simp [h]

@[simp] theorem Within.endTakeaway {t : CutStep} {c : CutOff} : Within ns (u.endTakeaway t c).jobs := by
  simp [State.endTakeaway, h]

@[simp] theorem Within.endTake {t : CutStep} {d : TakeDisposition} : Within ns (u.endTake t d).jobs := by
  simp [State.endTake, h]

@[simp] theorem Within.confirmStep {t : CutStep} : Within ns (u.confirmStep t).jobs := by simp [State.confirmStep, h]

@[simp] theorem Within.stepOk {measured : Nat} : Within ns (u.stepOk measured).jobs := by
  unfold State.stepOk
  split
  case h_1 =>
    unfold State.confirm State.confirmTurn State.confirmRecall
    repeat' split
    case h_1.isTrue | h_2.isTrue => exact .confirmStep (by exact h)
    all_goals simpa using h
  case h_2 =>
    split
    · exact .resumeHeld (by exact h)
    · exact h
  case h_3 => split <;> exact h
  all_goals exact h

/-! ### The pile -/

@[simp] theorem Within.takePile {e : JobEntry} {height : Nat} : Within ns (u.takePile e height).jobs :=
  .moveJob (by exact h)

@[simp] theorem Within.pileArrives {reading : Nat} : Within ns (u.pileArrives reading).jobs := by
  unfold State.pileArrives
  (repeat' split) <;> simp [h]

@[simp] theorem Within.storePile {p : PileRec} : Within ns (u.storePile p).jobs := by
  unfold State.storePile
  split
  · exact .setFinal (by exact h)
  · exact h

@[simp] theorem Within.countPick {p : PileRec} {reading : Nat} : Within ns (u.countPick p reading).jobs :=
  .storePile (by exact h)

@[simp] theorem Within.resumeTurning {p : PileRec} {reading : Nat} : Within ns (u.resumeTurning p reading).jobs := by
  unfold State.resumeTurning
  split <;> simp [h]

@[simp] theorem Within.resumeReady {p : PileRec} {reading : Nat} : Within ns (u.resumeReady p reading).jobs := by
  unfold State.resumeReady
  split
  · split
    · exact h
    · simpa using h
  · have stored := Within.storePile (u := u.setInfeed { u.infeed with pileLost := false }) h
      (p := ({ p with remaining := reading } : PileRec).redivide)
    dsimp only
    split
    · simpa using stored
    · exact stored

@[simp] theorem Within.liftMotionDone : Within ns u.liftMotionDone.jobs := by
  have released : Within ns
      ((u.setInfeed { u.infeed with liftTimer := Timer.stopped, pickHeight := none, liftOrphan := none }).release).jobs := h
  unfold State.liftMotionDone
  dsimp only
  split
  · exact released
  · unfold State.liftDone
    repeat' split
    case h_1.isTrue => exact .countPick released
    all_goals simpa using released

end

/-! ### The step -/

/-- No reaction brings a new number. -/
theorem reactions_within {ns : List Nat} :
    ∀ r ∈ reactions, ∀ s t : State, Within ns s.jobs → r s = some t → Within ns t.jobs := by
  simp only [reactions, List.forall_mem_cons]
  refine ⟨?_, ?_, ?_, ?_, ?_, ?_, ?_, ?_, ?_, ?_, ?_, ?_, ?_, ?_, ?_, ?_, ?_, ?_, ?_, ?_, ?_, ?_, ?_, ?_, ?_, ?_, by simp⟩ <;>
    intro s t hs ht
  · simpa [hydGrant_frame s t ht]
  · simpa [axisUnfault_frame s t ht]
  · simpa [cycleUnstop_frame s t ht]
  · simpa [startRevoked_frame s t ht]
  · simpa [jogRestart_frame s t ht]
  · simpa [jogRetry_frame s t ht]
  · simpa [transferAbandoned_frame s t ht]
  · rcases pileBack_cases ht with ⟨p, rfl⟩ | ⟨p, rfl⟩ | rfl <;> simp [hs]
  · simpa [rejectedOver_frame s t ht]
  · simpa [turnerCleared_frame s t ht]
  · simpa [emptyOccupied_frame s t ht]
  · simpa [prepareLeave_frame s t ht]
  · obtain ⟨x, c, -, -, rfl⟩ := takeawayEnd_cases ht
    exact .endTakeaway hs
  · obtain ⟨x, d, -, -, rfl⟩ := takeEnd_cases ht
    exact .endTake hs
  · simpa [liftEndLeave_frame s t ht]
  · simpa [transferBegin_frame s t ht]
  · simpa [askStep_frame s t ht]
  · simpa [askHandover_frame s t ht]
  · obtain ⟨w, e, -, -, -, -, rfl⟩ := displacement_cases ht
    exact .displace hs
  · obtain ⟨bk, e, -, -, -, rfl⟩ := planStart_cases ht
    exact .startPlan hs
  · obtain ⟨e, -, -, rfl⟩ := turnerCall_cases ht
    exact .callJob hs
  · simpa [liftClearing_frame s t ht]
  · simpa [liftStart_frame s t ht]
  · simpa [depositStart_frame s t ht]
  · simpa [raiseTurn_frame s t ht]
  · simpa [raiseLift_frame s t ht]

/-- No own effect but SUBMIT's brings a new number. -/
theorem ownEffect_within (c : Instr) (s : State) (hc : c ≠ .submit) : Within (numbersOf s.jobs) (ownEffect c s).jobs := by
  cases c
  case submit => exact absurd rfl hc
  case powerOnReset => simp [ownEffect, State.powerReset, State.blocksReset, Within, numbersOf]
  case frameSent =>
    simp only [ownEffect]
    split <;> simp [State.restartReset, State.blocksReset, Within, numbersOf]
  all_goals
    simp only [ownEffect, State.serve, withdrawJob, clearHold]
    repeat' split
    all_goals simp

/-- No own effect but ADMIT's changes the admission level, which a reset sets to 0. -/
theorem ownEffect_admission (c : Instr) (s : State) :
    (ownEffect c s).admission = s.admission ∨ (ownEffect c s).admission ≤ 7 := by
  cases c
  case powerOnReset => simp [ownEffect, State.powerReset, State.blocksReset]
  case frameSent =>
    simp only [ownEffect]
    split <;> simp [State.restartReset, State.blocksReset]
  case admitLevel =>
    simp only [ownEffect, State.serve, setLevel]
    (repeat' split) <;> simp [*]
  all_goals
    simp only [ownEffect, State.serve]
    repeat' split
    all_goals simp

/-- SUBMIT keeps the bounds: it adds a job where there is room, under a number that no entry holds. -/
theorem submitJob_tableBounded (f : Frame) (s : State) (h : s.tableBounded) : (submitJob f s).tableBounded := by
  rw [State.tableBounded_iff] at h ⊢
  obtain ⟨room, single, level⟩ := h
  unfold submitJob
  split
  · exact ⟨room, single, level⟩
  · dsimp only
    split
    · exact ⟨room, single, level⟩
    · next new =>
      split
      · exact ⟨room, single, level⟩
      · next free =>
        simp only [maxJobs] at free
        refine ⟨by simp; omega, ?_, by simpa⟩
        simp only [Option.isSome_iff_ne_none, ne_eq, not_not, State.entry, List.find?_eq_none] at new
        simp only [State.answer_frame, State.notify_frame, setJobs_jobs, numbersOf, List.map_append, List.map_cons,
          List.map_nil, newEntry, List.nodup_append]
        refine ⟨single, by simp, ?_⟩
        simp only [List.mem_map, List.mem_singleton]
        rintro _ ⟨e, he, rfl⟩ _ rfl
        simpa using new e he

/-- Settles O55: the numbers of the table stay within those that stood, and SUBMIT looks before it adds one. -/
theorem tableBoundsAreKept : Obligations.TableBoundsAreKept := by
  intro s t hs h
  refine step_keeps State.tableBounded ?own ?reacts ?sends ?queue ?takes ?ticks hs h
  case own =>
    intro c s hs
    by_cases hc : c = .submit
    · subst hc
      simp only [ownEffect, State.serve]
      repeat' split
      · exact hs
      · exact submitJob_tableBounded _ _ hs
      · exact hs
    · exact State.tableBounded_of_within (ownEffect_within c s hc) (ownEffect_admission c s) hs
  case reacts =>
    intro s t hs ht
    obtain ⟨r, hr, hrt⟩ := react_some s t ht
    exact State.tableBounded_of_within (reactions_within r hr s t .rfl hrt) (.inl (react_frame s t ht).1) hs
  case sends => exact fun s hs => hs
  case queue => exact fun s q hs => hs
  case takes =>
    intro s hs
    exact State.tableBounded_of_within (by simp) (.inl (by simp)) hs
  case ticks =>
    intro s hs
    exact State.tableBounded_of_within (by simp) (.inl (by simp)) hs

end Sys2Proof.Machine
end

section
/-! The Constant Store stays sound (R177 to R181): a write that the checks accept keeps every range and both pairs, whole or cut
short, and no other operation touches the stored records. -/
namespace Sys2Proof.Machine

/-! ### A write committed -/

/-- A constant written leaves the others. -/
theorem Consts.get_put_ne (c : Consts) {n m : Nat} (v : Int) (h : m ≠ n) : (c.put n v).get m = c.get m := by
  unfold Consts.put
  dsimp only
  split
  all_goals
    unfold Consts.get
    split
    all_goals first
      | rfl
      | exact absurd rfl h

/-- A constant written holds the value written; only constant 6 can be negative. -/
theorem Consts.get_put_self (c : Consts) {n : Nat} {v : Int} (hn : isConst n = true) (hv : n = 6 ∨ 0 ≤ v) :
    (c.put n v).get n = some v := by
  simp only [isConst, Bool.and_eq_true, decide_eq_true_eq] at hn
  obtain ⟨low, high⟩ := hn
  interval_cases n <;> simp [Consts.put, Consts.get] <;> simp at hv <;> exact hv

/-- Only constant 6 can be negative (R177). -/
theorem constRange_nonneg (n : Nat) : n = 6 ∨ 0 ≤ (constRange n).1 := by
  unfold constRange
  split <;> simp

/-- The two consistent pairs (R177). -/
def Consts.paired (c : Consts) : Prop := c.gminNarrow < c.gminStd ∧ c.gmax < c.ph

theorem Consts.wf_iff (c : Consts) :
    c.wf = true ↔
      (∀ n, isConst n = true → ∃ v, c.get n = some v ∧ (constRange n).1 ≤ v ∧ v ≤ (constRange n).2) ∧ c.paired := by
  simp only [Consts.wf, Bool.and_eq_true, List.all_eq_true, List.mem_range'_1, decide_eq_true_eq, Consts.paired, and_assoc]
  refine and_congr_left' (forall_congr' fun n => ?_)
  simp only [isConst, Bool.and_eq_true, decide_eq_true_eq, Nat.lt_succ_iff]
  refine imp_congr_right fun _ => ?_
  cases c.get n <;> simp

/-- A value that breaks no pair keeps both. -/
theorem Consts.paired_put {c : Consts} {n : Nat} {v : Int} (h : c.paired) (hv : breaksPair c n v = false)
    (hn : n = 6 ∨ 0 ≤ v) : (c.put n v).paired := by
  obtain ⟨plate, home⟩ := h
  unfold breaksPair at hv
  unfold Consts.put Consts.paired
  dsimp only
  split <;> simp at hv ⊢ <;> omega

/-- A constant written with a value that the checks of R179 accept keeps the ranges and the pairs of R177. -/
theorem Consts.wf_put {c : Consts} {n : Nat} {v : Int} (h : c.wf = true) (hn : isConst n = true)
    (hv : constValueOk c n v = true) : (c.put n v).wf = true := by
  rw [Consts.wf_iff] at h ⊢
  obtain ⟨ranges, pairs⟩ := h
  simp only [constValueOk, Bool.and_eq_true, decide_eq_true_eq, Bool.not_eq_true'] at hv
  obtain ⟨⟨low, high⟩, keeps⟩ := hv
  have sign : n = 6 ∨ 0 ≤ v := (constRange_nonneg n).imp_right fun h => h.trans low
  refine ⟨fun m hm => ?_, Consts.paired_put pairs keeps sign⟩
  by_cases same : m = n
  · subst same
    exact ⟨v, c.get_put_self hn sign, low, high⟩
  · rw [c.get_put_ne v same]
    exact ranges m hm

/-- The records of the store are sound (R177, R178), whatever write is in flight. -/
def Store.recordsSound (st : Store) : Prop :=
  st.consts.wf = true ∧ st.classes.length = 16 ∧ ∀ c ∈ st.classes, firstBadClassField c = none

theorem State.storeSound_iff (s : State) :
    s.storeSound ↔ s.store.recordsSound ∧ ∀ w, s.store.write = some w → w.target.valid s.store.consts = true := by
  simp only [State.storeSound, Store.recordsSound, and_assoc]

/-- A store without a write in flight is sound if its records are. -/
theorem State.storeSound_of_idle {s : State} (records : s.store.recordsSound) (idle : s.store.write = none) : s.storeSound :=
  s.storeSound_iff.2 ⟨records, by simp [idle]⟩

theorem Store.recordsSound_commit {st : Store} {w : WriteTarget} (h : st.recordsSound) (hw : w.valid st.consts = true) :
    (st.commit w).recordsSound := by
  obtain ⟨consts, room, classes⟩ := h
  cases w with
  | const n v =>
    simp only [WriteTarget.valid, Bool.and_eq_true] at hw
    exact ⟨Consts.wf_put consts hw.1 hw.2, room, classes⟩
  | cls n x =>
    simp only [WriteTarget.valid, Bool.and_eq_true, Option.isNone_iff_eq_none] at hw
    refine ⟨consts, by simpa [Store.commit] using room, fun c hc => ?_⟩
    rcases List.mem_or_eq_of_mem_set hc with old | rfl
    · exact classes c old
    · exact hw.2

/-! ### The operations on the store -/

theorem State.storeSound_of_store {s t : State} (h : t.store = s.store) (hs : s.storeSound) : t.storeSound := by
  rwa [State.storeSound_iff, h, ← State.storeSound_iff]

/-- An accepted write is in flight. -/
theorem State.startWrite_storeSound {s : State} {f : Frame} {w : WriteTarget} (hs : s.storeSound)
    (hw : w.valid s.store.consts = true) : (s.startWrite f w).storeSound := by
  rw [State.storeSound_iff] at hs ⊢
  refine ⟨hs.1, ?_⟩
  rintro x hx
  cases hx
  exact hw

theorem classWrite_storeSound (f : Frame) {s : State} (hs : s.storeSound) : (classWrite f s).storeSound := by
  unfold classWrite
  dsimp only
  split
  · exact hs
  · next number =>
    split
    · exact hs
    · split
      · exact hs
      · next good => exact State.startWrite_storeSound hs (by simp [WriteTarget.valid, good]; omega)

theorem constWrite_storeSound (key : Bool) (f : Frame) {s : State} (hs : s.storeSound) : (constWrite key f s).storeSound := by
  unfold constWrite
  dsimp only
  split
  · exact hs
  · next known =>
    split
    · exact hs
    · split
      · exact hs
      · split
        · next ok =>
          exact State.startWrite_storeSound (s := s.sense _ _) hs (by simp_all [WriteTarget.valid])
        · exact hs

/-- A completed write is in the store, which is IDLE. -/
theorem State.completeWrite_storeSound {s : State} {w : StoreWrite} (hs : s.storeSound) (hw : s.store.write = some w) :
    (s.completeWrite w).storeSound := by
  rw [State.storeSound_iff] at hs
  obtain ⟨records, valid⟩ := hs
  have done : (s.completeWrite w).store = { s.store.commit w.target with write := none } := by
    unfold State.completeWrite
    dsimp only
    split
    · split <;> simp
    · simp
  refine State.storeSound_of_idle ?_ (by rw [done])
  rw [done]
  exact Store.recordsSound_commit records (valid w hw)

/-- A power loss leaves the records whole, with a write in flight or without. -/
theorem State.storeAtPower_recordsSound {s : State} (hs : s.storeSound) : s.storeAtPower.recordsSound := by
  rw [State.storeSound_iff] at hs
  obtain ⟨records, valid⟩ := hs
  unfold State.storeAtPower
  dsimp only
  split
  · exact records
  · split
    · exact Store.recordsSound_commit records (valid _ ‹_›)
    · exact records

/-! ### The step -/

/-- Every own effect keeps the store sound. -/
theorem ownEffect_storeSound (c : Instr) {s : State} (hs : s.storeSound) : (ownEffect c s).storeSound := by
  cases c
  case powerOnReset =>
    refine State.storeSound_of_idle ?_ ?_
    · simpa [ownEffect, State.powerReset, State.blocksReset] using State.storeAtPower_recordsSound hs
    · simp [ownEffect, State.powerReset, State.blocksReset, State.storeAtPower]
  case frameSent =>
    simp only [ownEffect]
    split
    · refine State.storeSound_of_idle ?_ ?_
      · simpa [State.restartReset, State.blocksReset, Store.recordsSound] using (s.storeSound_iff.1 hs).1
      · simp [State.restartReset, State.blocksReset]
    · exact hs
  case classSet =>
    simp only [ownEffect, State.serve]
    repeat' split
    · exact hs
    · exact classWrite_storeSound _ hs
    · exact hs
  case constSet =>
    simp only [ownEffect, State.serve]
    repeat' split
    · exact hs
    · exact constWrite_storeSound _ _ hs
    · exact hs
  case storeWriteComplete =>
    simp only [ownEffect]
    split
    · exact State.completeWrite_storeSound hs ‹_›
    · exact hs
  all_goals
    refine State.storeSound_of_store ?_ hs
    simp only [ownEffect, State.serve]
    repeat' split
    all_goals simp

theorem State.tick_store (s : State) : s.tick.store = s.store.tick := by
  unfold State.tick State.sampleField State.runTimes
  split <;> simp

/-- Settles O56: the write in flight is one the checks accepted, and the records change by such a write alone. -/
theorem storeStaysSound : Obligations.StoreStaysSound := by
  intro s t hs h
  refine step_keeps State.storeSound (fun c s => ownEffect_storeSound c) ?reacts (fun s hs => hs) (fun s q hs => hs) ?takes ?ticks
    hs h
  case reacts => exact fun s t hs ht => State.storeSound_of_store (react_frame s t ht).2.2.2.1 hs
  case takes => exact fun s hs => State.storeSound_of_store (by simp) hs
  case ticks =>
    intro s hs
    rw [State.storeSound_iff] at hs ⊢
    obtain ⟨records, valid⟩ := hs
    rw [State.tick_store]
    refine ⟨records, ?_⟩
    simp only [Store.tick, Option.map_eq_some_iff]
    rintro _ ⟨w, hw, rfl⟩
    exact valid w hw

end Sys2Proof.Machine
end

section
/-! The Cell Link's bounds (R185, R186, R191). Notices are offered all over the part and leave everything of the link but the
notice queue alone; requests and replies join and leave at the receiver, the service, the store's completion and the transmitter. -/
namespace Sys2Proof.Machine

/-- The link without what a notice offered can change, and whether its notice queue is within its room. -/
def Link.unnoticed (l : Link) : Link × Bool :=
  ({ l with notices := [], number := 0, modes := NoticeModes.reset, overflow := false }, l.notices.length ≤ maxNotices)

@[simp] theorem Link.offer_unnoticed (l : Link) (n : Notice) : (l.offer n).unnoticed = l.unnoticed := by
  have room : (l.enqueue n).unnoticed = l.unnoticed := by
    unfold Link.enqueue
    split <;> simp [Link.unnoticed] <;> omega
  unfold Link.offer
  split
  · rfl
  · exact room
  · split
    · split
      · exact room
      · exact room
    · rfl

/-! ### The operations that offer notices -/

section
variable (s : State)

@[simp] theorem State.refNotice_unnoticed (r : RefRun) (x : StepResult) : (s.refNotice r x).link.unnoticed = s.link.unnoticed := by simp [State.refNotice]

@[simp] theorem State.interruptGauge_unnoticed : (s.interruptGauge).link.unnoticed = s.link.unnoticed := by
  unfold State.interruptGauge
  dsimp only
  (repeat' split) <;> simp

@[simp] theorem State.moveJob_unnoticed (n : Nat) (st : JobState) (why : JobReason) : (s.moveJob n st why).link.unnoticed = s.link.unnoticed := by simp [State.moveJob]

@[simp] theorem State.endJob_unnoticed (e : JobEntry) (st : JobState) (why : JobReason) : (s.endJob e st why).link.unnoticed = s.link.unnoticed := by simp [State.endJob]

@[simp] theorem State.startPlan_unnoticed (e : JobEntry) (bk : BankId) : (s.startPlan e bk).link.unnoticed = s.link.unnoticed := by simp [State.startPlan]

@[simp] theorem State.callJob_unnoticed (e : JobEntry) : (s.callJob e).link.unnoticed = s.link.unnoticed := by simp [State.callJob]

@[simp] theorem State.displace_unnoticed (e : JobEntry) : (s.displace e).link.unnoticed = s.link.unnoticed := by
  unfold State.displace
  (repeat' split) <;> simp

@[simp] theorem State.checkDone_unnoticed (n : Nat) : (s.checkDone n).link.unnoticed = s.link.unnoticed := by
  unfold State.checkDone
  (repeat' split) <;> simp

@[simp] theorem State.countLift_unnoticed (n : Nat) : (s.countLift n).link.unnoticed = s.link.unnoticed := by simp [State.countLift]

@[simp] theorem State.setFinal_unnoticed (n count : Nat) : (s.setFinal n count).link.unnoticed = s.link.unnoticed := by simp [State.setFinal]

@[simp] theorem State.planReady_unnoticed (op : PlanOp) (steps : List CutStep) : (s.planReady op steps).link.unnoticed = s.link.unnoticed := by simp [State.planReady]

@[simp] theorem State.planRefuse_unnoticed (op : PlanOp) (why : JobReason) : (s.planRefuse op why).link.unnoticed = s.link.unnoticed := by simp [State.planRefuse]

@[simp] theorem State.stepNotice_unnoticed (t : CutStep) (x : StepResult) (m : MoveResult) : (s.stepNotice t x m).link.unnoticed = s.link.unnoticed := by
  unfold State.stepNotice
  (repeat' split) <;> simp

@[simp] theorem State.checkPlate_unnoticed (plate : Bool) : (s.checkPlate plate).link.unnoticed = s.link.unnoticed := by
  unfold State.checkPlate
  (repeat' split) <;> simp

@[simp] theorem State.startStep_unnoticed : (s.startStep).link.unnoticed = s.link.unnoticed := by
  unfold State.startStep
  dsimp only
  (repeat' split) <;> simp

@[simp] theorem State.beginStep_unnoticed : (s.beginStep).link.unnoticed = s.link.unnoticed := by
  unfold State.beginStep
  (repeat' split) <;> simp

@[simp] theorem State.endLift_unnoticed : (s.endLift).link.unnoticed = s.link.unnoticed := by
  unfold State.endLift
  (repeat' split) <;> simp

@[simp] theorem State.completeStep_unnoticed : (s.completeStep).link.unnoticed = s.link.unnoticed := by
  unfold State.completeStep
  dsimp only
  (repeat' split) <;> simp

@[simp] theorem State.resumeHeld_unnoticed : (s.resumeHeld).link.unnoticed = s.link.unnoticed := by
  unfold State.resumeHeld
  (repeat' split) <;> simp

@[simp] theorem State.loadLift_unnoticed (l : LiftRec) : (s.loadLift l).link.unnoticed = s.link.unnoticed := by
  unfold State.loadLift
  (repeat' split) <;> simp

@[simp] theorem State.stepAborted_unnoticed : (s.stepAborted).link.unnoticed = s.link.unnoticed := by
  unfold State.stepAborted
  (repeat' split) <;> simp

@[simp] theorem State.takeCycleEnd_unnoticed (counted : Bool) : (s.takeCycleEnd counted).link.unnoticed = s.link.unnoticed := by
  unfold State.takeCycleEnd
  (repeat' split) <;> simp

@[simp] theorem State.inspectFirst_unnoticed (d : Disposition) : (s.inspectFirst d).link.unnoticed = s.link.unnoticed := by
  unfold State.inspectFirst
  (repeat' split) <;> simp

@[simp] theorem State.endTakeaway_unnoticed (t : CutStep) (c : CutOff) : (s.endTakeaway t c).link.unnoticed = s.link.unnoticed := by simp [State.endTakeaway]

@[simp] theorem State.endTake_unnoticed (t : CutStep) (d : TakeDisposition) : (s.endTake t d).link.unnoticed = s.link.unnoticed := by simp [State.endTake]

@[simp] theorem State.moveReported_unnoticed (m : MoveResult) : (s.moveReported m).link.unnoticed = s.link.unnoticed := by
  unfold State.moveReported
  dsimp only
  (repeat' split) <;> simp

@[simp] theorem State.clearRunner_unnoticed : (s.clearRunner).link.unnoticed = s.link.unnoticed := by simp [State.clearRunner]

@[simp] theorem State.endCycle_unnoticed : (s.endCycle).link.unnoticed = s.link.unnoticed := by
  unfold State.endCycle
  dsimp only
  (repeat' split) <;> simp

@[simp] theorem State.grantCut_unnoticed : (s.grantCut).link.unnoticed = s.link.unnoticed := by
  unfold State.grantCut
  dsimp only
  (repeat' split) <;> simp

@[simp] theorem State.completeTransfer_unnoticed (l : LiftRec) : (s.completeTransfer l).link.unnoticed = s.link.unnoticed := by simp [State.completeTransfer]

@[simp] theorem State.beginTransfer_unnoticed (l : LiftRec) : (s.beginTransfer l).link.unnoticed = s.link.unnoticed := by
  unfold State.beginTransfer
  dsimp only
  (repeat' split) <;> simp

@[simp] theorem State.clearJogger_unnoticed : (s.clearJogger).link.unnoticed = s.link.unnoticed := by simp [State.clearJogger]

@[simp] theorem State.takePile_unnoticed (e : JobEntry) (h : Nat) : (s.takePile e h).link.unnoticed = s.link.unnoticed := by simp [State.takePile]

@[simp] theorem State.storePile_unnoticed (p : PileRec) : (s.storePile p).link.unnoticed = s.link.unnoticed := by
  unfold State.storePile State.exhaust
  (repeat' split) <;> simp

@[simp] theorem State.countPick_unnoticed (p : PileRec) (r : Nat) : (s.countPick p r).link.unnoticed = s.link.unnoticed := by simp [State.countPick]

@[simp] theorem State.clearInfeed_unnoticed (n : Nat) : (s.clearInfeed n).link.unnoticed = s.link.unnoticed := by
  unfold State.clearInfeed
  dsimp only
  (repeat' split) <;> simp

@[simp] theorem State.changeFaults_unnoticed (f : FaultSet) : (s.changeFaults f).link.unnoticed = s.link.unnoticed := by simp [State.changeFaults]

@[simp] theorem State.stopBegin_unnoticed : (s.stopBegin).link.unnoticed = s.link.unnoticed := by simp [State.stopBegin]

@[simp] theorem State.guillotineBegin_unnoticed : (s.guillotineBegin).link.unnoticed = s.link.unnoticed := by
  unfold State.guillotineBegin
  dsimp only
  (repeat' split) <;> simp

@[simp] theorem State.latch_unnoticed (k : FaultKind) : (s.latch k).link.unnoticed = s.link.unnoticed := by
  unfold State.latch
  dsimp only
  (repeat' split) <;> simp

@[simp] theorem State.axisFault_unnoticed (k : FaultKind) (valid : Bool) : (s.axisFault k valid).link.unnoticed = s.link.unnoticed := by
  unfold State.axisFault
  dsimp only
  (repeat' split) <;> simp

@[simp] theorem State.clearFaults_unnoticed : (s.clearFaults).link.unnoticed = s.link.unnoticed := by
  unfold State.clearFaults
  (repeat' split) <;> simp

@[simp] theorem State.resumeTurning_unnoticed (p : PileRec) (r : Nat) : (s.resumeTurning p r).link.unnoticed = s.link.unnoticed := by
  unfold State.resumeTurning
  (repeat' split) <;> simp

@[simp] theorem State.resumeReady_unnoticed (p : PileRec) (r : Nat) : (s.resumeReady p r).link.unnoticed = s.link.unnoticed := by
  unfold State.resumeReady
  dsimp only
  (repeat' split) <;> simp

@[simp] theorem State.resetNotices_unnoticed : (s.resetNotices).link.unnoticed = s.link.unnoticed := by
  unfold State.resetNotices
  dsimp only
  (repeat' split) <;> simp

@[simp] theorem State.clampHome_unnoticed : (s.clampHome).link.unnoticed = s.link.unnoticed := by
  unfold State.clampHome
  (repeat' split) <;> simp

@[simp] theorem State.inPosition_unnoticed (m : Move) : (s.inPosition m).link.unnoticed = s.link.unnoticed := by
  unfold State.inPosition
  dsimp only
  (repeat' split) <;> simp

@[simp] theorem State.correct_unnoticed (m : Move) : (s.correct m).link.unnoticed = s.link.unnoticed := by
  unfold State.correct
  dsimp only
  (repeat' split) <;> simp

@[simp] theorem State.checkPosition_unnoticed : (s.checkPosition).link.unnoticed = s.link.unnoticed := by
  unfold State.checkPosition
  (repeat' split) <;> simp

@[simp] theorem State.pileArrives_unnoticed (r : Nat) : (s.pileArrives r).link.unnoticed = s.link.unnoticed := by
  unfold State.pileArrives
  (repeat' split) <;> simp

@[simp] theorem State.pileLeaves_unnoticed : (s.pileLeaves).link.unnoticed = s.link.unnoticed := by
  unfold State.pileLeaves
  (repeat' split) <;> simp

@[simp] theorem State.missPick_unnoticed (p : PileRec) : (s.missPick p).link.unnoticed = s.link.unnoticed := by
  unfold State.missPick
  dsimp only
  split <;> simp

@[simp] theorem State.liftDone_unnoticed : (s.liftDone).link.unnoticed = s.link.unnoticed := by
  unfold State.liftDone
  (repeat' split) <;> simp

@[simp] theorem State.liftMotionDone_unnoticed : (s.liftMotionDone).link.unnoticed = s.link.unnoticed := by
  unfold State.liftMotionDone
  dsimp only
  (repeat' split) <;> simp

@[simp] theorem State.jogTimeout_unnoticed : (s.jogTimeout).link.unnoticed = s.link.unnoticed := by
  unfold State.jogTimeout
  dsimp only
  (repeat' split) <;> simp

@[simp] theorem State.transferTimeout_unnoticed : (s.transferTimeout).link.unnoticed = s.link.unnoticed := by simp [State.transferTimeout]

@[simp] theorem State.clearStations_unnoticed (n : Nat) : (s.clearStations n).link.unnoticed = s.link.unnoticed := by
  unfold State.clearStations
  dsimp only
  (repeat' split) <;> simp

@[simp] theorem State.undoJob_unnoticed (e : JobEntry) : (s.undoJob e).link.unnoticed = s.link.unnoticed := by
  unfold State.undoJob
  (repeat' split) <;> simp

@[simp] theorem State.confirm_unnoticed (w : Nat) : (s.confirm w).link.unnoticed = s.link.unnoticed := by
  unfold State.confirm State.confirmTurn State.confirmRecall State.confirmStep
  (repeat' split) <;> simp

@[simp] theorem State.stepOk_unnoticed (w : Nat) : (s.stepOk w).link.unnoticed = s.link.unnoticed := by
  unfold State.stepOk
  (repeat' split) <;> simp

@[simp] theorem State.dropJogFailed_unnoticed : (s.dropJogFailed).link.unnoticed = s.link.unnoticed := by
  unfold State.dropJogFailed
  (repeat' split) <;> simp

@[simp] theorem State.liftInPlace_unnoticed : (s.liftInPlace).link.unnoticed = s.link.unnoticed := by
  unfold State.liftInPlace
  (repeat' split) <;> simp

end

/-- Of the link, a reaction changes what notices change. -/
theorem react_unnoticed {s t : State} (h : react s = some t) : t.link.unnoticed = s.link.unnoticed := by
  obtain ⟨r, hr, ht⟩ := react_some s t h
  revert r
  simp only [reactions, List.forall_mem_cons]
  refine ⟨?_, ?_, ?_, ?_, ?_, ?_, ?_, ?_, ?_, ?_, ?_, ?_, ?_, ?_, ?_, ?_, ?_, ?_, ?_, ?_, ?_, ?_, ?_, ?_, ?_, ?_, by simp⟩ <;>
    intro ht
  · rcases hydGrant_cases ht with ⟨-, rfl⟩ | ⟨-, rfl⟩ | ⟨-, rfl⟩ <;> simp
  · simp [axisUnfault_frame s t ht]
  · rcases cycleUnstop_cases ht with ⟨-, -, rfl⟩ | ⟨-, -, rfl⟩ <;> simp
  · simp [startRevoked_frame s t ht]
  · simp [jogRestart_frame s t ht]
  · simp [jogRetry_frame s t ht]
  · simp [transferAbandoned_frame s t ht]
  · rcases pileBack_cases ht with ⟨p, rfl⟩ | ⟨p, rfl⟩ | rfl <;> simp
  · rcases rejectedOver_cases ht with ⟨n, rfl⟩ | rfl <;> simp
  · simp [turnerCleared_frame s t ht]
  · rw [emptyOccupied_some ht]; simp
  · rcases prepareLeave_cases ht with ⟨plate, rfl⟩ | rfl <;> simp
  · obtain ⟨x, c, -, -, rfl⟩ := takeawayEnd_cases ht
    simp
  · obtain ⟨x, d, -, -, rfl⟩ := takeEnd_cases ht
    simp
  · simp [liftEndLeave_frame s t ht]
  · obtain ⟨l, -, rfl⟩ := transferBegin_cases ht
    simp
  · simp [askStep_frame s t ht]
  · simp [askHandover_frame s t ht]
  · obtain ⟨w, e, -, -, -, -, rfl⟩ := displacement_cases ht
    simp
  · obtain ⟨bk, e, -, -, -, rfl⟩ := planStart_cases ht
    simp
  · obtain ⟨e, -, -, rfl⟩ := turnerCall_cases ht
    simp
  · simp [liftClearing_frame s t ht]
  · simp [liftStart_frame s t ht]
  · simp [depositStart_frame s t ht]
  · simp [raiseTurn_frame s t ht]
  · simp [raiseLift_frame s t ht]

/-! ### Requests and replies -/

/-- The bounds look at the link but for its notices, and at the write in flight. -/
theorem State.linkBounded_of_unnoticed {s t : State} (link : t.link.unnoticed = s.link.unnoticed)
    (write : t.store.write.isSome = s.store.write.isSome) (hs : s.linkBounded) : t.linkBounded := by
  simp only [Link.unnoticed, Prod.mk.injEq, Link.mk.injEq, maxNotices] at link
  obtain ⟨⟨-, requests, replies, -, -, -, -, -, -, restart, deferred, -⟩, notices⟩ := link
  unfold State.linkBounded at hs ⊢
  rwa [requests, replies, restart, deferred, write, decide_eq_decide.1 notices]

/-- A state whose head request has just left the queue to be served (R186). -/
def State.servingNow (s : State) : Prop := s.linkBounded ∧ s.link.replies.length < 3 ∧ s.link.restart = none

/-- While no RESTART stands served, no reply of one is deferred. -/
theorem State.servingNow.undeferred {s : State} (h : s.servingNow) : s.link.restartDeferred = false := by
  obtain ⟨⟨-, -, -, deferred⟩, -, none⟩ := h
  by_contra yes
  simp [none] at deferred
  simp [deferred] at yes

theorem State.servingNow_of_unnoticed {s t : State} (link : t.link.unnoticed = s.link.unnoticed)
    (write : t.store.write.isSome = s.store.write.isSome) (hs : s.servingNow) : t.servingNow := by
  have bounds := State.linkBounded_of_unnoticed link write hs.1
  simp only [Link.unnoticed, Prod.mk.injEq, Link.mk.injEq] at link
  obtain ⟨⟨-, -, replies, -, -, -, -, -, -, restart, -⟩, -⟩ := link
  exact ⟨bounds, replies ▸ hs.2.1, restart ▸ hs.2.2⟩

/-- A request served may be answered. -/
theorem State.servingNow.answer {s : State} (h : s.servingNow) (f : Frame) (st : Status) (n : Nat) (d : List Byte) :
    (s.answer f st n d).linkBounded := by
  have undeferred := h.undeferred
  obtain ⟨⟨requests, notices, -, -⟩, few, -⟩ := h
  refine ⟨by simpa, by simpa, ?_, by simp [undeferred]⟩
  have := s.store.write.isSome.toNat_le
  simp [undeferred]
  omega

/-- The head of the queue leaves it to be served (R186). -/
theorem State.dequeue_servingNow {s : State} (hs : s.linkBounded) (h : s.link.serving = true) : s.dequeue.servingNow := by
  simp only [Link.serving, Bool.and_eq_true, serveReplies, Option.isNone_iff_eq_none] at h
  obtain ⟨⟨-, few⟩, none⟩ := h
  obtain ⟨requests, notices, replies, deferred⟩ := hs
  refine ⟨⟨?_, by simpa, by simpa, by simpa⟩, by simpa using of_decide_eq_true few, by simpa using none⟩
  simp
  omega

/-- Service keeps the bounds if what the request carries out keeps them, from the state without its frame. -/
theorem State.serve_linkBounded {s : State} {code : Byte} {len : Nat} {k : Frame → State → State} (hs : s.linkBounded)
    (hk : ∀ f u, State.servingNow u → (k f u).linkBounded) : (s.serve code len k).linkBounded := by
  unfold State.serve
  split
  · exact hs
  · next f hf =>
    have serving : s.link.serving = true := by
      unfold State.request at hf
      split at hf
      · split at hf
        · next hc => exact (Bool.and_eq_true_iff.1 hc).1
        · cases hf
      · cases hf
    have now := State.dequeue_servingNow hs serving
    split
    · exact hk f _ now
    · exact now.answer _ _ _ _

/-- A request that does its work and is answered, whatever notices the work offers. -/
theorem State.servingNow.answer_after {s t : State} (h : s.servingNow) (link : t.link.unnoticed = s.link.unnoticed)
    (write : t.store.write.isSome = s.store.write.isSome) (f : Frame) (st : Status) (n : Nat) (d : List Byte) :
    (t.answer f st n d).linkBounded :=
  (State.servingNow_of_unnoticed link write h).answer f st n d

/-- A write accepted keeps a place in the reply list. -/
theorem State.servingNow.startWrite {s : State} (h : s.servingNow) (f : Frame) (w : WriteTarget) :
    (s.startWrite f w).linkBounded := by
  have undeferred := h.undeferred
  obtain ⟨⟨requests, notices, -, -⟩, few, -⟩ := h
  refine ⟨by simpa, by simpa, ?_, by simp [undeferred]⟩
  simp [State.startWrite, undeferred]
  omega

section
variable {s : State} (h : s.servingNow) (f : Frame)
include h

theorem submitJob_linkBounded : (submitJob f s).linkBounded := by
  unfold submitJob
  split
  · exact h.answer ..
  · dsimp only
    split
    · exact h.answer ..
    · split
      · exact h.answer ..
      · exact h.answer_after (by simp) (by simp) ..

theorem withdrawJob_linkBounded : (withdrawJob f s).linkBounded := by
  unfold withdrawJob
  split
  · exact h.answer ..
  · exact h.answer_after (by simp) (by simp) ..

theorem reportJob_linkBounded : (reportJob f s).linkBounded := by
  unfold reportJob
  split <;> exact h.answer ..

theorem reportLine_linkBounded : (reportLine f s).linkBounded := h.answer f .ok 0 s.lineStatus

theorem setHold_linkBounded : (setHold f s).linkBounded := h.answer_after (by simp) (by simp) ..

theorem clearHold_linkBounded : (clearHold f s).linkBounded := by
  unfold clearHold
  dsimp only
  split <;> exact h.answer_after (by simp) (by simp) ..

theorem setLevel_linkBounded : (setLevel f s).linkBounded := by
  unfold setLevel
  dsimp only
  split <;> exact h.answer_after (by simp) (by simp) ..

theorem clearRequest_linkBounded (v : FieldView) : (clearRequest v f s).linkBounded :=
  h.answer_after (by simp) (by simp) ..

theorem referenceRequest_linkBounded : (referenceRequest f s).linkBounded := by
  unfold referenceRequest
  split <;> exact h.answer_after (by simp) (by simp) ..

theorem classWrite_linkBounded : (classWrite f s).linkBounded := by
  unfold classWrite
  dsimp only
  repeat' split
  case h_2 => exact h.startWrite ..
  all_goals exact h.answer ..

theorem classRead_linkBounded : (classRead f s).linkBounded := by
  unfold classRead
  dsimp only
  split <;> exact h.answer ..

theorem constWrite_linkBounded (key : Bool) : (constWrite key f s).linkBounded := by
  have sensed : (s.sense .serviceKey key).servingNow := State.servingNow_of_unnoticed (by simp) (by simp) h
  unfold constWrite
  dsimp only
  split
  · exact sensed.answer ..
  · split
    · exact sensed.answer ..
    · split
      · exact sensed.answer ..
      · split
        · exact sensed.startWrite ..
        · exact sensed.answer ..

theorem constRead_linkBounded : (constRead f s).linkBounded := by
  unfold constRead
  dsimp only
  split <;> exact h.answer ..

theorem setMode_linkBounded : (setMode f s).linkBounded := by
  unfold setMode
  split
  · exact h.answer ..
  · exact h.answer ..
  · next c m _ _ =>
    have moded : (s.setLink { s.link with modes := s.link.modes.put c ⟨m, true⟩ }).servingNow := h
    exact moded.answer ..

theorem rearmClass_linkBounded : (rearmClass f s).linkBounded := by
  unfold rearmClass
  split
  · exact h.answer ..
  · next c _ =>
    have armed :
        (s.setLink { s.link with modes := s.link.modes.put c { s.link.modes.get c with armed := true } }).servingNow := h
    exact armed.answer ..

/-- The reply of a RESTART joins at once, or keeps a place behind that of the write in flight (R189). -/
theorem restartRequest_linkBounded : (restartRequest f s).linkBounded := by
  have undeferred := h.undeferred
  obtain ⟨⟨requests, notices, -, -⟩, few, -⟩ := h
  unfold restartRequest
  split
  · next write =>
    refine ⟨by simpa, by simpa, ?_, by simp [write]⟩
    simp [write]
    omega
  · next write =>
    refine ⟨by simpa, by simpa, ?_, by simp [undeferred]⟩
    simp [write, undeferred]
    omega

end

/-- A write completed gives its place, and that of a deferred RESTART reply, to the replies. -/
theorem State.completeWrite_linkBounded {s : State} {w : StoreWrite} (hs : s.linkBounded) (hw : s.store.write = some w) :
    (s.completeWrite w).linkBounded := by
  obtain ⟨requests, notices, places, deferred⟩ := hs
  simp [hw] at places
  unfold State.completeWrite
  dsimp only
  split
  · split
    · next yes =>
      simp [State.reply] at yes
      simp [yes] at places
      refine ⟨by simpa [State.reply], by simpa [State.reply], ?_, by simp [State.reply]⟩
      simp [State.reply]
      omega
    · next no =>
      simp [State.reply] at no
      refine ⟨by simpa [State.reply], by simpa [State.reply], ?_, by simp [State.reply, no]⟩
      simp [State.reply, no]
      omega
  · next none =>
    simp [State.reply] at none
    have no : s.link.restartDeferred = false := by
      by_contra yes
      simp [none] at deferred
      simp [deferred] at yes
    refine ⟨by simpa [State.reply], by simpa [State.reply], ?_, by simp [State.reply, no]⟩
    simp [State.reply, no]
    omega

/-- A good frame joins where there is room, or its refusal does. -/
theorem State.offerFrame_linkBounded {s : State} (hs : s.linkBounded) (f : Frame) : (s.offerFrame f).linkBounded := by
  obtain ⟨requests, notices, places, deferred⟩ := hs
  unfold State.offerFrame
  split
  · next room =>
    refine ⟨?_, notices, places, deferred⟩
    simp only [maxRequests] at room
    simp
    omega
  · split
    · next few =>
      simp only [Bool.and_eq_true, serveReplies, Option.isNone_iff_eq_none] at few
      have now : s.servingNow := ⟨⟨requests, notices, places, deferred⟩, of_decide_eq_true few.1, few.2⟩
      exact now.answer ..
    · exact ⟨requests, notices, places, deferred⟩

/-- A reset empties the link. -/
theorem State.resetNotices_linkBounded {s : State} (h : s.link.unnoticed = (Link.reset s.link.line).unnoticed)
    (idle : s.store.write = none) : s.resetNotices.linkBounded :=
  State.linkBounded_of_unnoticed (s := s.setLink (Link.reset s.link.line)) (by simpa using h) (by simp)
    (by simp [State.linkBounded, Link.reset, idle])

/-! ### The step -/

/-- Every own effect keeps the bounds. -/
theorem ownEffect_linkBounded (c : Instr) {s : State} (hs : s.linkBounded) : (ownEffect c s).linkBounded := by
  cases c
  case powerOnReset =>
    exact State.resetNotices_linkBounded rfl (by simp [State.blocksReset, State.storeAtPower])
  case frameReceived =>
    simp only [ownEffect]
    split
    · exact State.offerFrame_linkBounded (s := s.hunt) hs _
    · exact hs
  case gapTimeout | lenAbove240 =>
    simp only [ownEffect]
    split <;> exact hs
  case frameSent =>
    simp only [ownEffect]
    split
    · exact State.resetNotices_linkBounded rfl rfl
    · obtain ⟨requests, notices, places, deferred⟩ := hs
      unfold Link.sent
      split
      · exact ⟨requests, notices, places, deferred⟩
      · refine ⟨requests, notices, ?_, deferred⟩
        simp
        omega
      · exact ⟨requests, notices, places, deferred⟩
  case requestUnknown =>
    simp only [ownEffect]
    split
    · split
      · next hc => exact (State.dequeue_servingNow hs (Bool.and_eq_true_iff.1 hc).1).answer ..
      · exact hs
    · exact hs
  case submit => exact State.serve_linkBounded hs fun f u h => submitJob_linkBounded h f
  case withdraw => exact State.serve_linkBounded hs fun f u h => withdrawJob_linkBounded h f
  case jobInfo => exact State.serve_linkBounded hs fun f u h => reportJob_linkBounded h f
  case lineInfo => exact State.serve_linkBounded hs fun f u h => reportLine_linkBounded h f
  case hold => exact State.serve_linkBounded hs fun f u h => setHold_linkBounded h f
  case resume => exact State.serve_linkBounded hs fun f u h => clearHold_linkBounded h f
  case admitLevel => exact State.serve_linkBounded hs fun f u h => setLevel_linkBounded h f
  case clear => exact State.serve_linkBounded hs fun f u h => clearRequest_linkBounded h f _
  case reference => exact State.serve_linkBounded hs fun f u h => referenceRequest_linkBounded h f
  case classSet => exact State.serve_linkBounded hs fun f u h => classWrite_linkBounded h f
  case classGet => exact State.serve_linkBounded hs fun f u h => classRead_linkBounded h f
  case constSet => exact State.serve_linkBounded hs fun f u h => constWrite_linkBounded h f _
  case constGet => exact State.serve_linkBounded hs fun f u h => constRead_linkBounded h f
  case noticeMode => exact State.serve_linkBounded hs fun f u h => setMode_linkBounded h f
  case rearm => exact State.serve_linkBounded hs fun f u h => rearmClass_linkBounded h f
  case restart => exact State.serve_linkBounded hs fun f u h => restartRequest_linkBounded h f
  case storeWriteComplete =>
    simp only [ownEffect]
    split
    · exact State.completeWrite_linkBounded hs ‹_›
    · exact hs
  all_goals
    refine State.linkBounded_of_unnoticed ?_ ?_ hs
    all_goals
      simp only [ownEffect]
      repeat' split
      all_goals simp

/-- The transmitter takes at most a notice from its queue. -/
theorem State.transmit_linkBounded {s : State} (hs : s.linkBounded) : s.transmit.linkBounded := by
  obtain ⟨requests, notices, places, deferred⟩ := hs
  unfold State.transmit Link.pick
  split
  case h_3 =>
    split
    case h_2 q rest _ queue =>
      refine ⟨requests, ?_, places, deferred⟩
      simp [queue] at notices ⊢
      omega
    all_goals exact ⟨requests, notices, places, deferred⟩
  all_goals exact ⟨requests, notices, places, deferred⟩

/-- Settles O54: replies are counted with the places kept for them, and a reaction offers notices only. -/
theorem linkBoundsAreKept : Obligations.LinkBoundsAreKept := by
  intro s t hs h
  refine step_keeps State.linkBounded (fun c s => ownEffect_linkBounded c) ?reacts (fun s => State.transmit_linkBounded)
    (fun s q hs => hs) ?takes ?ticks hs h
  case reacts =>
    intro s t hs ht
    exact State.linkBounded_of_unnoticed (react_unnoticed ht) (by rw [(react_frame s t ht).2.2.2.1]) hs
  case takes =>
    intro s hs
    unfold State.takeByte
    dsimp only
    (repeat' split) <;> exact hs
  case ticks =>
    intro s hs
    have write : s.tick.store.write.isSome = s.store.write.isSome := by simp [State.tick_store, Store.tick]
    unfold State.linkBounded
    rw [write]
    unfold State.tick State.sampleField State.runTimes
    split <;> simpa [Link.tick, State.linkBounded] using hs

end Sys2Proof.Machine
end

section
/-! The Hydraulic Arbiter and the Cut Cycle unit stay in agreement (R104 to R106, R116, R157 to R162). -/
namespace Sys2Proof.Machine

/-- What the Arbiter's and the knife's conditions look at. -/
def State.hydView (s : State) :
    Arbiter × CycleState × Option Purpose × Monitor × (Bool × Bool × Bool × Bool) × Bool × Bool :=
  (s.arbiter, s.cycle.state, s.cycle.purpose, s.cycle.monitor, (s.on .hydReady, s.on .curtain, s.on .handL, s.on .handR),
    s.stop, s.cycle.counted)

theorem State.hydView_eq_iff {s t : State} :
    t.hydView = s.hydView ↔
      t.arbiter = s.arbiter ∧ t.cycle.state = s.cycle.state ∧ t.cycle.purpose = s.cycle.purpose ∧
        t.cycle.monitor = s.cycle.monitor ∧ t.on .hydReady = s.on .hydReady ∧ t.on .curtain = s.on .curtain ∧
        t.on .handL = s.on .handL ∧ t.on .handR = s.on .handR ∧ t.stop = s.stop ∧
        t.cycle.counted = s.cycle.counted := by
  simp [State.hydView, and_assoc]

/-- The fields behind the view decide it. -/
theorem State.hydView_of_fields {s t : State} (arbiter : t.arbiter = s.arbiter) (cycle : t.cycle = s.cycle)
    (inputs : t.inputs = s.inputs) (stop : t.faults.stop = s.faults.stop) : t.hydView = s.hydView := by
  simp [State.hydView, State.on, State.stop, *]

theorem State.arbiterSound_of_view {s t : State} (h : t.hydView = s.hydView) (hs : s.arbiterSound) : t.arbiterSound := by
  obtain ⟨arbiter, state, purpose, -, hyd, -, -, -, stop, -⟩ := State.hydView_eq_iff.1 h
  unfold State.arbiterSound Cycle.moving at hs ⊢
  rwa [arbiter, state, purpose, hyd, stop]

/-! ### The two halves: the unit's own record, and the Cut Cycle unit's part -/

/-- The Arbiter's own half: unit, holder and requests agree (R158 to R162). -/
def Arbiter.agrees (a : Arbiter) (hyd stop : Bool) : Prop :=
  (a.holder = none → a.unit = freeUnit hyd) ∧ (∀ q, a.holder = some q → a.unit = .held ∧ a.waiting q = none) ∧
    (stop = true → a.holder = none ∧ ∀ q, a.waiting q = none)

/-- The Cut Cycle unit's half: its moving states have the grant, its WAIT_GRANT the request (R104 to R106, R116). -/
def Cycle.agrees (c : Cycle) (a : Arbiter) : Prop :=
  (a.holder = some .cut ↔ c.moving = true) ∧ (a.cut.isSome = true ↔ c.state = .waitGrant) ∧
    (c.state = .waitGrant → c.purpose.isSome = true)

theorem State.arbiterSound_iff (s : State) :
    s.arbiterSound ↔ s.arbiter.agrees (s.on .hydReady) s.stop ∧ s.cycle.agrees s.arbiter := by
  simp [State.arbiterSound, Arbiter.agrees, Cycle.agrees, and_assoc]

/-- A cycle in another moving state, or in another state at rest, agrees as the one before it did. -/
theorem Cycle.agrees_of_moving {c d : Cycle} {a : Arbiter} (h : c.agrees a) (moving : d.moving = c.moving)
    (waits : d.state ≠ .waitGrant) (waited : c.state ≠ .waitGrant) : d.agrees a := by
  obtain ⟨grant, request, -⟩ := h
  exact ⟨by rw [moving, grant], by simp [request, waits, waited], fun w => absurd w waits⟩

/-- A cycle at rest agrees with an Arbiter in which CUT has neither grant nor request. -/
theorem Cycle.agrees_of_rest {c : Cycle} {a : Arbiter} (rest : c.moving = false) (waits : c.state ≠ .waitGrant)
    (holder : a.holder ≠ some .cut) (request : a.cut = none) : c.agrees a :=
  ⟨by simp [rest, holder], by simp [request, waits], fun w => absurd w waits⟩

/-- A moving cycle has the grant and no request. -/
theorem State.arbiterSound.of_moving {s : State} (h : s.arbiterSound) (moving : s.cycle.moving = true) :
    s.arbiter.holder = some .cut ∧ s.arbiter.cut = none ∧ s.cycle.state ≠ .waitGrant := by
  obtain ⟨-, held, -, grant, -, -⟩ := h
  refine ⟨grant.2 moving, (held .cut (grant.2 moving)).2, ?_⟩
  rintro w
  simp [Cycle.moving, w] at moving

/-- A cycle that waits has no grant. -/
theorem State.arbiterSound.of_waitGrant {s : State} (h : s.arbiterSound) (w : s.cycle.state = .waitGrant) :
    s.arbiter.holder ≠ some .cut := by
  obtain ⟨-, -, -, grant, -, -⟩ := h
  simp [grant, Cycle.moving, w]

/-! ### The Arbiter's operations -/

/-- Whose waiting time a written request is. -/
theorem Arbiter.waiting_put (a : Arbiter) (q p : Requester) (n : Option Nat) :
    (a.put q n).waiting p = if p = q then n else a.waiting p := by
  cases q <;> cases p <;> rfl

/-- A request dropped leaves the rest of the record in agreement. -/
theorem Arbiter.agrees_put_none {a : Arbiter} {hyd stop : Bool} (h : a.agrees hyd stop) (q : Requester) :
    (a.put q none).agrees hyd stop := by
  obtain ⟨free, held, quiet⟩ := h
  have waits : ∀ p, a.waiting p = none → (a.put q none).waiting p = none := by
    intro p hp
    rw [Arbiter.waiting_put]
    split
    · rfl
    · exact hp
  have same : (a.put q none).holder = a.holder ∧ (a.put q none).unit = a.unit := by cases q <;> exact ⟨rfl, rfl⟩
  refine ⟨by rwa [same.1, same.2], fun p hp => ?_, fun s => ?_⟩
  · rw [same.1] at hp
    exact ⟨same.2 ▸ (held p hp).1, waits p (held p hp).2⟩
  · exact ⟨same.1 ▸ (quiet s).1, fun p => waits p ((quiet s).2 p)⟩

/-- A request raised by a requester without the grant, no stop in force. -/
theorem Arbiter.agrees_put_some {a : Arbiter} {hyd : Bool} (h : a.agrees hyd false) {q : Requester}
    (hq : a.holder ≠ some q) (n : Nat) : (a.put q (some n)).agrees hyd false := by
  obtain ⟨free, held, -⟩ := h
  have same : (a.put q (some n)).holder = a.holder ∧ (a.put q (some n)).unit = a.unit := by cases q <;> exact ⟨rfl, rfl⟩
  refine ⟨by rwa [same.1, same.2], fun p hp => ?_, fun s => nomatch s⟩
  rw [same.1] at hp
  have other : p ≠ q := fun e => hq (e ▸ hp)
  refine ⟨same.2 ▸ (held p hp).1, ?_⟩
  rw [Arbiter.waiting_put, if_neg other]
  exact (held p hp).2

/-- The unit given back. -/
theorem Arbiter.agrees_release {a : Arbiter} {hyd stop : Bool} (h : a.agrees hyd stop) :
    Arbiter.agrees { a with unit := freeUnit hyd, holder := none } hyd stop := by
  obtain ⟨-, -, quiet⟩ := h
  refine ⟨fun _ => rfl, fun q hq => (nomatch hq), fun s => ⟨rfl, fun q => ?_⟩⟩
  cases q
  · exact (quiet s).2 .cut
  · exact (quiet s).2 .lift
  · exact (quiet s).2 .turn

/-- The unit with neither holder nor request. -/
theorem Arbiter.agrees_clear (hyd stop : Bool) : Arbiter.agrees ⟨freeUnit hyd, none, none, none, none⟩ hyd stop :=
  ⟨fun _ => rfl, fun q hq => (nomatch hq), fun _ => ⟨rfl, fun q => by cases q <;> rfl⟩⟩

/-- A grant made to a requester, no stop in force. -/
theorem Arbiter.agrees_grant {a : Arbiter} {hyd : Bool} (q : Requester) : (a.grant q).agrees hyd false := by
  refine ⟨fun hn => (nomatch hn), fun p hp => ?_, fun s => nomatch s⟩
  cases hp
  exact ⟨rfl, by cases q <;> rfl⟩

/-- The choice is a pending request. -/
theorem Arbiter.choose_waiting {a : Arbiter} {limit : Nat} {q : Requester} (h : a.choose limit = some q) :
    (a.waiting q).isSome = true := by
  have pend : ∀ x ∈ a.standing, (a.waiting x.1).isSome = true := by
    simp only [Arbiter.standing, List.mem_filterMap, Option.map_eq_some_iff]
    rintro _ ⟨p, -, w, hw, rfl⟩
    simp [hw]
  have best : ∀ (xs : List (Requester × Nat)) (b : Option (Requester × Nat)) (x : Requester × Nat),
      xs.foldl preferLong b = some x → b = some x ∨ x ∈ xs := by
    intro xs
    induction xs with
    | nil => exact fun b x h => .inl h
    | cons y ys ih =>
      intro b x hx
      rcases ih _ x hx with e | m
      · unfold preferLong at e
        repeat' split at e
        · cases e; exact .inr (List.mem_cons_self ..)
        · cases e; exact .inr (List.mem_cons_self ..)
        · cases e; exact .inl rfl
      · exact .inr (List.mem_cons_of_mem _ m)
  unfold Arbiter.choose at h
  split at h
  · next x hx =>
    cases h
    rcases best _ _ _ hx with e | m
    · cases e
    · exact pend x (List.mem_filter.1 m).1
  · obtain ⟨x, hx, rfl⟩ := Option.map_eq_some_iff.1 h
    exact pend x (List.mem_of_mem_head? hx)

/-! ### The Cut Cycle unit's operations -/

section
variable {s : State} (hs : s.arbiterSound)
include hs

/-- Another cycle record under the same Arbiter. -/
theorem State.arbiterSound_setCycle {c : Cycle} (h : c.agrees s.arbiter) : (s.setCycle c).arbiterSound :=
  (State.arbiterSound_iff _).2 ⟨((State.arbiterSound_iff s).1 hs).1, h⟩

/-- The monitor is no business of the Arbiter. -/
theorem State.arbiterSound_setMonitor {c : Cycle} (state : c.state = s.cycle.state) (purpose : c.purpose = s.cycle.purpose) :
    (s.setCycle c).arbiterSound := by
  refine State.arbiterSound_setCycle hs ?_
  have h := ((State.arbiterSound_iff s).1 hs).2
  unfold Cycle.agrees Cycle.moving at h ⊢
  rwa [state, purpose]

/-- From one moving state to another. -/
theorem State.arbiterSound_move {c : Cycle} (moving : s.cycle.moving = true) (moves : c.moving = true) :
    (s.setCycle c).arbiterSound := by
  refine State.arbiterSound_setCycle hs ?_
  refine Cycle.agrees_of_moving ((State.arbiterSound_iff s).1 hs).2 (by rw [moves, moving]) ?_ (hs.of_moving moving).2.2
  rintro w
  simp [Cycle.moving, w] at moves

theorem State.markPartial_arbiterSound : s.markPartial.arbiterSound :=
  State.arbiterSound_of_view (State.hydView_of_fields (by simp) (by simp) (by simp) (by simp)) hs

theorem State.abortCycle_arbiterSound (faulted : Bool) : (s.abortCycle faulted).arbiterSound := by
  unfold State.abortCycle
  split
  · next cutting =>
    refine State.arbiterSound_move (State.markPartial_arbiterSound hs) ?_ rfl
    revert cutting
    simp only [State.markPartial_frame, Cycle.cutting, Cycle.moving]
    cases s.cycle.state <;> simp
  · exact hs

/-- A request withdrawn, the cycle back in its return state. -/
theorem State.withdrawCycle_arbiterSound (w : s.cycle.state = .waitGrant) : s.withdrawCycle.arbiterSound := by
  have free := hs.of_waitGrant w
  refine (State.arbiterSound_iff _).2 ⟨Arbiter.agrees_put_none ((State.arbiterSound_iff s).1 hs).1 .cut, ?_⟩
  refine Cycle.agrees_of_rest ?_ ?_ free rfl <;>
    cases h : s.cycle.returnState <;>
      simp [State.withdrawCycle, Cycle.backFromWait, h, ReturnState.cycleState, Cycle.moving]

theorem State.withdrawCut_arbiterSound : s.withdrawCut.arbiterSound := by
  unfold State.withdrawCut
  split
  · next h =>
    simp only [Bool.and_eq_true, decide_eq_true_eq] at h
    have spent : s.cycle.spend.state = s.cycle.state ∧ s.cycle.spend.purpose = s.cycle.purpose := by
      unfold Cycle.spend
      split <;> exact ⟨rfl, rfl⟩
    exact State.withdrawCycle_arbiterSound (State.arbiterSound_setMonitor hs spent.1 spent.2) (spent.1.trans h.1)
  · exact hs

theorem State.endCycle_arbiterSound (waits : s.cycle.state ≠ .waitGrant) : s.endCycle.arbiterSound := by
  obtain ⟨same, cycle, arbiter, -, -, -⟩ := State.endCycle_ends s
  have request : s.arbiter.cut = none := by
    have h := hs.2.2.2.2.1
    simpa [waits] using h
  simp only [SameBut] at same
  have view : s.endCycle.on .hydReady = s.on .hydReady ∧ s.endCycle.stop = s.stop := by simp [State.on, State.stop]
  rw [State.arbiterSound_iff, view.1, view.2, arbiter]
  have agrees := ((State.arbiterSound_iff s).1 hs).1
  split
  · exact ⟨Arbiter.agrees_release agrees, Cycle.agrees_of_rest (by rw [cycle]; rfl) (by rw [cycle]; simp) (by simp) request⟩
  · next other =>
    exact ⟨agrees, Cycle.agrees_of_rest (by rw [cycle]; rfl) (by rw [cycle]; simp) other request⟩

/-- A request of CUT is raised by a cycle at rest that goes to WAIT_GRANT with a purpose. -/
theorem State.raise_cut_arbiterSound {c : Cycle} (rest : s.cycle.moving = false) (clear : s.stop = false)
    (waits : c.state = .waitGrant) (purpose : c.purpose.isSome = true) : ((s.setCycle c).raise .cut).arbiterSound := by
  obtain ⟨agrees, grant, -⟩ := (State.arbiterSound_iff s).1 hs
  have free : s.arbiter.holder ≠ some .cut := by simp [grant, rest]
  have e : (s.setCycle c).raise .cut = (s.setCycle c).setArbiter (s.arbiter.put .cut (some 0)) := by
    simp [State.raise, show (s.setCycle c).stop = false from clear]
  rw [e, State.arbiterSound_iff]
  refine ⟨?_, by simp [Arbiter.put, free, Cycle.moving, waits], by simp [Arbiter.put, waits], fun _ => by simpa using purpose⟩
  rw [clear] at agrees
  simpa [State.on, State.stop, show s.faults.stop = false from clear] using Arbiter.agrees_put_some agrees free 0

theorem State.engage_arbiterSound : s.engage.arbiterSound := by
  have spent : (s.setCycle s.cycle.spend).arbiterSound := by
    refine State.arbiterSound_setMonitor hs ?_ ?_ <;> unfold Cycle.spend <;> split <;> rfl
  unfold State.engage
  split
  case h_1 ready =>
    split
    · next h =>
      simp only [Bool.and_eq_true, Bool.not_eq_true'] at h
      exact State.raise_cut_arbiterSound hs (by simp [Cycle.moving, ready]) h.2 rfl rfl
    · exact spent
  case h_2 owed =>
    split
    · exact spent
    · next h => exact State.raise_cut_arbiterSound hs (by simp [Cycle.moving, owed]) (by simpa using h) rfl rfl
  all_goals exact spent

/-- A requester of the Infeed raises its request. -/
theorem State.raise_infeed_arbiterSound {q : Requester} (hq : q ≠ .cut) (holder : s.arbiter.holder ≠ some q) :
    (s.raise q).arbiterSound := by
  unfold State.raise
  split
  · exact hs
  · next clear =>
    have clear : s.stop = false := by simpa using clear
    obtain ⟨agrees, cycle⟩ := (State.arbiterSound_iff s).1 hs
    rw [clear] at agrees
    rw [State.arbiterSound_iff]
    refine ⟨by simpa [State.on, State.stop, show s.faults.stop = false from clear] using Arbiter.agrees_put_some agrees holder 0,
      ?_⟩
    cases q
    · exact absurd rfl hq
    · exact cycle
    · exact cycle

/-- A requester of the Infeed gives up its request. -/
theorem State.withdrawRequest_infeed_arbiterSound {q : Requester} (hq : q ≠ .cut) : (s.withdrawRequest q).arbiterSound := by
  obtain ⟨agrees, cycle⟩ := (State.arbiterSound_iff s).1 hs
  refine (State.arbiterSound_iff _).2 ⟨Arbiter.agrees_put_none agrees q, ?_⟩
  cases q
  · exact absurd rfl hq
  · exact cycle
  · exact cycle

/-- A requester of the Infeed gives back the unit. -/
theorem State.release_infeed_arbiterSound {q : Requester} (hq : q ≠ .cut) (holder : s.arbiter.holder = some q) :
    s.release.arbiterSound := by
  obtain ⟨agrees, grant, request, purpose⟩ := (State.arbiterSound_iff s).1 hs
  refine (State.arbiterSound_iff _).2 ⟨Arbiter.agrees_release agrees, ?_, request, purpose⟩
  have rest : s.cycle.moving ≠ true := by
    rw [ne_eq, ← grant, holder]
    simpa using hq
  simpa [State.release] using rest

end

/-! ### Faults -/

/-- The STOP class of a set is decided by the kinds of that class. -/
theorem FaultSet.stop_put (f : FaultSet) (k : FaultKind) : (f.put k true).stop = (f.stop || k.isStop) := by
  cases k <;> simp [FaultSet.put, FaultSet.stop, FaultKind.isStop]

/-- What is withdrawn is in its return state. -/
theorem Cycle.withdrawn_state (c : Cycle) : c.withdrawn.state = .ready ∨ c.withdrawn.state = .returnNeeded := by
  unfold Cycle.withdrawn Cycle.spentTo
  cases c.returnState <;> simp

theorem Cycle.withdrawn_rest (c : Cycle) : c.withdrawn.moving = false ∧ c.withdrawn.state ≠ .waitGrant := by
  rcases c.withdrawn_state with h | h <;> simp [Cycle.moving, h]

/-- A cycle that cuts is in a moving state. -/
theorem Cycle.moving_of_cutting {c : Cycle} (h : c.cutting = true) : c.moving = true := by
  unfold Cycle.cutting at h
  unfold Cycle.moving
  cases e : c.state <;> simp [e] at h ⊢

/-- What a stop leaves of the cycle is at rest. -/
theorem StopBegins.cycle_rest {s t : State} {f : FaultSet} (h : StopBegins s t f) :
    t.cycle.moving = false ∧ t.cycle.state ≠ .waitGrant := by
  obtain ⟨-, -, -, -, cycle, -⟩ := h
  rw [cycle]
  split
  · exact ⟨rfl, by simp [Cycle.spentTo]⟩
  · next rest =>
    split
    · exact s.cycle.withdrawn_rest
    · next waits => exact ⟨by simpa using rest, waits⟩

/-- A stop: neither grant nor request, and no cycle that moves or waits. -/
theorem StopBegins.arbiterSound {s t : State} {f : FaultSet} (h : StopBegins s t f) : t.arbiterSound := by
  have rest := h.cycle_rest
  obtain ⟨same, -, -, arbiter, -⟩ := h
  rw [State.arbiterSound_iff, arbiter, same.on .hydReady]
  exact ⟨Arbiter.agrees_clear _ _, Cycle.agrees_of_rest rest.1 rest.2 (by simp) rfl⟩

section
variable {s t : State} (hs : s.arbiterSound)
include hs

/-- The guillotine's halt keeps the agreement: an abort keeps its grant, a withdrawal drops its request. -/
theorem GuillotineHalts.arbiterSound {asked : Option MoveAsk} (h : GuillotineHalts s t asked)
    (hyd : t.on .hydReady = s.on .hydReady) (stop : t.stop = s.stop) : t.arbiterSound := by
  obtain ⟨cycle, arbiter, -⟩ := h
  have ⟨agrees, cagrees⟩ := (State.arbiterSound_iff s).1 hs
  simp only [decide_eq_true_eq] at cycle arbiter
  rw [State.arbiterSound_iff, hyd, stop]
  by_cases cutting : s.cycle.purpose = some .cut ∧ s.cycle.cutting = true
  · have moving := Cycle.moving_of_cutting cutting.2
    have waits := (hs.of_moving moving).2.2
    rw [if_pos cutting] at cycle
    rw [if_neg (by simp [waits])] at arbiter
    rw [cycle, arbiter]
    exact ⟨agrees, Cycle.agrees_of_moving cagrees moving.symm (by simp [Cycle.aborted, Cycle.spentTo]) waits⟩
  · rw [if_neg cutting] at cycle
    rw [cycle, arbiter]
    split
    · next h =>
      have rest := s.cycle.withdrawn_rest
      exact ⟨Arbiter.agrees_put_none agrees .cut, Cycle.agrees_of_rest rest.1 rest.2 (hs.of_waitGrant h.2.1) rfl⟩
    · exact ⟨agrees, cagrees⟩

/-- An Infeed station fault takes grant and requests from the two Infeed units. -/
theorem InfeedFault.arbiterSound {f : FaultSet} (h : InfeedFault s t f) (stop : t.stop = s.stop) : t.arbiterSound := by
  obtain ⟨same, -, -, -, arbiter⟩ := h
  have ⟨agrees, grant, request, purpose⟩ := (State.arbiterSound_iff s).1 hs
  have dropped := Arbiter.agrees_put_none (Arbiter.agrees_put_none agrees .turn) .lift
  rw [State.arbiterSound_iff, same.on .hydReady, stop, arbiter, same.cycle]
  cases gives : (s.arbiter.holder = some .turn || s.arbiter.holder = some .lift : Bool)
  · exact ⟨dropped, grant, request, purpose⟩
  · refine ⟨Arbiter.agrees_release dropped, ?_, request, purpose⟩
    have rest : s.cycle.moving ≠ true := by
      rw [ne_eq, ← grant]
      rintro cut
      simp [cut] at gives
    simpa using rest

/-- Every latching keeps the agreement. -/
theorem State.latch_arbiterSound (k : FaultKind) : (s.latch k).arbiterSound := by
  cases new : s.faults.has k
  case true => simpa [State.latch, new] using hs
  case false =>
    have stop : ∀ {u : State}, u.faults = s.faults.put k true → k.isStop = false → u.stop = s.stop := by
      intro u hu hk
      simp [State.stop, hu, FaultSet.stop_put, hk]
    cases isStop : k.isStop
    case true => exact (State.latch_stop s k new isStop).arbiterSound
    case false =>
      cases isGuillotine : k.isGuillotine
      case true =>
        obtain ⟨same, faults, -, -, halts⟩ := State.latch_guillotine s k new isGuillotine
        exact GuillotineHalts.arbiterSound hs halts (same.on .hydReady) (stop faults isStop)
      case false =>
        cases isInfeed : k.isInfeed
        case true =>
          have h := State.latch_infeed s k new isInfeed
          exact InfeedFault.arbiterSound hs h (stop h.2.1 isStop)
        case false =>
          have e : s.latch k = s.changeFaults (s.faults.put k true) := by
            simp [State.latch, new, isStop, isGuillotine, isInfeed]
          rw [e]
          exact State.arbiterSound_of_view
            (State.hydView_of_fields (by simp) (by simp) (by simp)
              (by simp [State.changeFaults, FaultSet.stop_put, isStop])) hs

/-- A fault of the axis is a latching, as far as Arbiter and cycle go. -/
theorem State.axisFault_arbiterSound (k : FaultKind) (valid : Bool) : (s.axisFault k valid).arbiterSound := by
  have stands : (s.faultAxis valid).arbiterSound := State.arbiterSound_of_view rfl hs
  have latched := State.latch_arbiterSound stands k
  unfold State.axisFault
  dsimp only
  split
  · exact State.arbiterSound_of_view rfl latched
  · exact latched

end

/-! ### The reactions -/

/-- A reaction that can touch Arbiter, cycle, stop or the inputs behind the knife is one of six. -/
theorem react_hydView {s t : State} (h : react s = some t) :
    hydGrant s = some t ∨ cycleUnstop s = some t ∨ startRevoked s = some t ∨ pileBack s = some t ∨ raiseTurn s = some t ∨
      raiseLift s = some t ∨ t.hydView = s.hydView := by
  obtain ⟨r, hr, ht⟩ := react_some s t h
  have same : t.arbiter = s.arbiter → t.cycle = s.cycle → t.faults = s.faults →
      (hydGrant s = some t ∨ cycleUnstop s = some t ∨ startRevoked s = some t ∨ pileBack s = some t ∨
        raiseTurn s = some t ∨ raiseLift s = some t ∨ t.hydView = s.hydView) := fun arbiter cycle faults => by
    simp [State.hydView_of_fields arbiter cycle (react_frame s t h).2.1 (by rw [faults])]
  revert r
  simp only [reactions, List.forall_mem_cons]
  refine ⟨?_, ?_, ?_, ?_, ?_, ?_, ?_, ?_, ?_, ?_, ?_, ?_, ?_, ?_, ?_, ?_, ?_, ?_, ?_, ?_, ?_, ?_, ?_, ?_, ?_, ?_, by simp⟩ <;>
    intro ht
  · simp [ht]
  · apply same <;> simp [axisUnfault_frame s t ht]
  · simp [ht]
  · simp [ht]
  · apply same <;> simp [jogRestart_frame s t ht]
  · apply same <;> simp [jogRetry_frame s t ht]
  · apply same <;> simp [transferAbandoned_frame s t ht]
  · simp [ht]
  · apply same <;> simp [rejectedOver_frame s t ht]
  · apply same <;> simp [turnerCleared_frame s t ht]
  · apply same <;> simp [emptyOccupied_frame s t ht]
  · apply same <;> simp [prepareLeave_frame s t ht]
  · apply same <;> simp [takeawayEnd_frame s t ht]
  · apply same <;> simp [takeEnd_frame s t ht]
  · apply same <;> simp [liftEndLeave_frame s t ht]
  · apply same <;> simp [transferBegin_frame s t ht]
  · apply same <;> simp [askStep_frame s t ht]
  · apply same <;> simp [askHandover_frame s t ht]
  · apply same <;> simp [displacement_frame s t ht]
  · apply same <;> simp [planStart_frame s t ht]
  · apply same <;> simp [turnerCall_frame s t ht]
  · apply same <;> simp [liftClearing_frame s t ht]
  · apply same <;> simp [liftStart_frame s t ht]
  · apply same <;> simp [depositStart_frame s t ht]
  · simp [ht]
  · simp [ht]

/-- What a grant finds: the unit FREE and nobody's, no stop, and the chosen request pending. -/
theorem State.arbiterSound.of_free {s : State} (hs : s.arbiterSound) (free : s.arbiter.unit = .free) :
    s.arbiter.holder = none ∧ s.cycle.moving = false := by
  obtain ⟨-, held, -, grant, -⟩ := hs
  have none : s.arbiter.holder = none := by
    cases h : s.arbiter.holder with
    | none => rfl
    | some q => simpa [free] using (held q h).1
  refine ⟨none, ?_⟩
  simpa [none] using grant

section
variable {s t : State} (hs : s.arbiterSound)
include hs

/-- A grant to one of the Infeed's requesters. -/
theorem State.grant_infeed_arbiterSound {q : Requester} (hq : q ≠ .cut) (free : s.arbiter.unit = .free)
    (clear : s.stop = false) : (s.setArbiter (s.arbiter.grant q)).arbiterSound := by
  obtain ⟨none, rest⟩ := hs.of_free free
  obtain ⟨-, -, request, purpose⟩ := (State.arbiterSound_iff s).1 hs
  rw [State.arbiterSound_iff, show (s.setArbiter (s.arbiter.grant q)).stop = false from clear]
  refine ⟨Arbiter.agrees_grant q, ?_, ?_, purpose⟩
  · simp [Arbiter.grant, hq, rest]
  · cases q
    · exact absurd rfl hq
    · exact request
    · exact request

/-- A grant to CUT, with the cycle in the moving state that its purpose gives. -/
theorem State.grant_cut_arbiterSound {c : Cycle} (clear : s.stop = false) (moves : c.moving = true) :
    ((s.setArbiter (s.arbiter.grant .cut)).setCycle c).arbiterSound := by
  rw [State.arbiterSound_iff, show ((s.setArbiter (s.arbiter.grant .cut)).setCycle c).stop = false from clear]
  refine ⟨Arbiter.agrees_grant .cut, ?_⟩
  have waits : c.state ≠ .waitGrant := by
    rintro w
    simp [Cycle.moving, w] at moves
  exact ⟨by simp [Arbiter.grant, moves], by simp [Arbiter.grant, Arbiter.put, waits], fun w => absurd w waits⟩

/-- The grant reaches the Cut Cycle unit in WAIT_GRANT, which starts to move, or ends at once (R106, R107, R118). -/
theorem State.grantCut_arbiterSound (clear : s.stop = false) (waits : s.cycle.state = .waitGrant) :
    (s.setArbiter (s.arbiter.grant .cut)).grantCut.arbiterSound := by
  have purpose := hs.2.2.2.2.2 waits
  have sound := fun c => State.grant_cut_arbiterSound (c := c) hs clear
  have ended : (s.setArbiter (s.arbiter.grant .cut)).endCycle.arbiterSound := by
    obtain ⟨same, cycle, arbiter, -⟩ := State.endCycle_ends (s.setArbiter (s.arbiter.grant .cut))
    have stop : (s.setArbiter (s.arbiter.grant .cut)).endCycle.stop = s.stop := by simp [State.stop]
    rw [if_pos (by rfl)] at arbiter
    rw [State.arbiterSound_iff, same.on .hydReady, stop, arbiter]
    have released : Arbiter.agrees { s.arbiter with unit := freeUnit (s.on .hydReady), holder := none, cut := none }
        (s.on .hydReady) s.stop :=
      Arbiter.agrees_release (Arbiter.agrees_put_none ((State.arbiterSound_iff s).1 hs).1 .cut)
    exact ⟨released, Cycle.agrees_of_rest (by rw [cycle]; rfl) (by rw [cycle]; simp) (by simp) rfl⟩
  unfold State.grantCut
  split
  · dsimp only
    split
    · exact State.arbiterSound_of_view rfl (sound { s.cycle with state := .clamping } rfl)
    · exact sound { s.cycle with state := .clamping } rfl
  · split
    · exact sound { s.cycle with state := .strokeUp } rfl
    · split
      · exact sound { s.cycle with state := .unclamp } rfl
      · exact ended
  · next h => simp [show s.cycle.purpose = none from h] at purpose

/-- A stop ended leaves an Arbiter that was at rest. -/
theorem cycleUnstop_arbiterSound (ht : cycleUnstop s = some t) : t.arbiterSound := by
  rcases cycleUnstop_cases ht with ⟨stopped, -, rfl⟩ | ⟨stopped, -, rfl⟩
  · exact State.endCycle_arbiterSound hs (by simp [stopped])
  · exact State.arbiterSound_setCycle hs
      (Cycle.agrees_of_moving ((State.arbiterSound_iff s).1 hs).2 (by simp [Cycle.moving, stopped]) (by simp) (by simp [stopped]))

theorem State.backToPrepare_arbiterSound : s.backToPrepare.arbiterSound := by
  unfold State.backToPrepare
  split
  · exact State.withdrawCut_arbiterSound (State.arbiterSound_of_view (s := s) rfl hs)
  · exact hs

theorem pileBack_arbiterSound (ht : pileBack s = some t) : t.arbiterSound := by
  rcases pileBack_cases ht with ⟨p, rfl⟩ | ⟨p, rfl⟩ | rfl
  · unfold State.resumeTurning
    split
    · exact State.arbiterSound_of_view rfl hs
    · exact State.latch_arbiterSound hs _
  · unfold State.resumeReady
    split
    · split
      · exact State.arbiterSound_of_view rfl hs
      · exact State.latch_arbiterSound hs _
    · dsimp only
      have stored : ∀ q : PileRec, ((s.setInfeed { s.infeed with pileLost := false }).storePile q).arbiterSound := fun q =>
        State.arbiterSound_of_view (State.hydView_of_fields (by simp) (by simp) (by simp) (by simp)) hs
      split
      · refine State.withdrawRequest_infeed_arbiterSound (q := .lift) ?_ (by simp)
        exact State.arbiterSound_of_view rfl (stored _)
      · exact stored _
  · exact State.arbiterSound_of_view rfl hs

/-- Every reaction keeps the agreement. -/
theorem react_arbiterSound (ht : react s = some t) : t.arbiterSound := by
  rcases react_hydView ht with grant | stop | start | pile | turn | lift | same
  · have cond : s.arbiter.unit = .free ∧ s.stop = false := by
      unfold hydGrant at grant
      split at grant
      · next h => simpa using h
      · cases grant
    obtain ⟨free, clear⟩ := cond
    rcases hydGrant_cases grant with ⟨cut, rfl⟩ | ⟨-, rfl⟩ | ⟨-, rfl⟩
    · exact State.grantCut_arbiterSound hs clear (hs.2.2.2.2.1.1 (Arbiter.choose_waiting cut))
    · have granted := State.grant_infeed_arbiterSound hs (q := .lift) (by simp) free clear
      exact State.arbiterSound_of_view (State.hydView_of_fields (by simp) (by simp) (by simp) (by simp)) granted
    · exact State.arbiterSound_of_view rfl (State.grant_infeed_arbiterSound hs (q := .turn) (by simp) free clear)
  · exact cycleUnstop_arbiterSound hs stop
  · unfold startRevoked at start
    split at start <;> cases start
    exact State.backToPrepare_arbiterSound hs
  · exact pileBack_arbiterSound hs pile
  · unfold raiseTurn at turn
    split at turn <;> cases turn
    next h =>
      simp only [Bool.and_eq_true, decide_eq_true_eq] at h
      exact State.raise_infeed_arbiterSound hs (by simp) h.1.1.2
  · unfold raiseLift at lift
    split at lift <;> cases lift
    next h =>
      simp only [Bool.and_eq_true, decide_eq_true_eq] at h
      exact State.raise_infeed_arbiterSound hs (by simp) h.1.1.2
  · exact State.arbiterSound_of_view same hs

end

/-! ### The commands -/

/-- The commands that can touch Arbiter, cycle, stop or the inputs behind the knife. -/
def touchesCut (c : Instr) : Bool :=
  match c with
  | .powerOnReset .. | .frameSent | .withdraw | .clear _ | .resetBtn _ | .eStopOpen | .curtainBroken | .curtainClear
  | .handPress _ | .handRelease _ | .windowExpiry | .encoderStep _ | .settleExpiry | .searchLimitExpiry | .encoderStall
  | .clampPressureActive _ | .clampPressureInactive | .clampBottom _ | .dwellExpiry | .knifeBottomActive | .knifeTopActive
  | .clampTopActive | .plateFittedInactive | .pilePresentActive _ | .pilePresentInactive | .motionDone ..
  | .motionTimerExpiry _ | .jogTimerExpiry | .transferTimerExpiry | .hydReadyActive | .hydReadyInactive => true
  | _ => false

/-- The level of an input after a filtered change, as the inputs hold it. -/
theorem State.sense_filtered (s : State) (x y : Switch) (level : Bool) :
    ((s.sense x level).inputs.get y).filtered = if y = x then level else (s.inputs.get y).filtered := s.sense_on x y level

theorem ownEffect_hydView (c : Instr) (s : State) (hc : touchesCut c = false) : (ownEffect c s).hydView = s.hydView := by
  cases c <;> simp only [touchesCut, Bool.true_eq_false] at hc
  case constSet =>
    simp only [ownEffect, State.serve, constWrite]
    (repeat' split) <;> simp [State.hydView, State.on, State.stop, State.sense_filtered]
  case jogOk =>
    simp only [ownEffect, State.dropJogFailed]
    split <;> simp [State.hydView, State.on, State.stop, State.sense_filtered, State.changeFaults, FaultSet.stop]
  all_goals
    simp only [ownEffect, State.serve]
    (repeat' split) <;> simp [State.hydView, State.on, State.stop, State.sense_filtered]

/-- A filtered change of an input other than HYD_READY is no business of the Arbiter. -/
theorem State.sense_arbiterSound {s : State} (hs : s.arbiterSound) {x : Switch} (level : Bool)
    (hx : x ≠ .hydReady := by decide) : (s.sense x level).arbiterSound := by
  rw [State.arbiterSound_iff] at hs ⊢
  simpa [State.sense_on, Ne.symm hx, State.stop] using hs

section
variable {s : State} (hs : s.arbiterSound)
include hs

/-- A withdrawal drops requests, and the grant of no one. -/
theorem State.clearStations_arbiterSound (n : Nat) : (s.clearStations n).arbiterSound := by
  have turner : ∀ u : State, u.arbiterSound → u.clearTurner.arbiterSound := fun u hu =>
    State.withdrawRequest_infeed_arbiterSound (q := .turn) (State.arbiterSound_of_view (s := u) rfl hu) (by simp)
  have lift : ∀ u : State, u.arbiterSound → u.clearLift.arbiterSound := fun u hu =>
    State.withdrawRequest_infeed_arbiterSound (q := .lift) (State.arbiterSound_of_view (s := u) rfl hu) (by simp)
  have infeed : (s.clearInfeed n).arbiterSound := by
    have waits : ∀ u : State, u.arbiterSound → (u.await (.clearance .infeed)).arbiterSound := fun u hu =>
      State.arbiterSound_of_view (s := u) rfl hu
    unfold State.clearInfeed
    dsimp only
    cases s.infeed.turnerHolds n <;> cases s.infeed.liftHolds n
    · exact hs
    · exact waits _ (lift _ hs)
    · exact waits _ (turner _ hs)
    · exact waits _ (lift _ (turner _ hs))
  have jogger : ∀ u : State, u.arbiterSound → u.clearJogger.arbiterSound := fun u hu =>
    State.arbiterSound_of_view (s := u) rfl hu
  have runner : ∀ u : State, u.arbiterSound → u.clearRunner.withdrawCut.arbiterSound := fun u hu =>
    State.withdrawCut_arbiterSound (State.arbiterSound_of_view (s := u) rfl hu)
  unfold State.clearStations
  dsimp only
  cases s.jogger.holds n <;> cases s.runnerHolds n
  · exact infeed
  · exact runner _ infeed
  · exact jogger _ infeed
  · exact runner _ (jogger _ infeed)

theorem withdrawJob_arbiterSound (f : Frame) : (withdrawJob f s).arbiterSound := by
  unfold withdrawJob
  split
  · exact State.arbiterSound_of_view (s := s) rfl hs
  · next e _ =>
    have ended : (s.endJob e .cancelled .withdrawn).arbiterSound :=
      State.arbiterSound_of_view (State.hydView_of_fields (by simp) (by simp) (by simp) (by simp)) hs
    have undone : ((s.endJob e .cancelled .withdrawn).undoJob e).arbiterSound := by
      unfold State.undoJob
      split
      case h_3 => exact State.clearStations_arbiterSound ended _
      all_goals exact State.arbiterSound_of_view (s := s.endJob e .cancelled .withdrawn) rfl ended
    exact State.arbiterSound_of_view (s := (s.endJob e .cancelled .withdrawn).undoJob e) rfl undone

/-- A CLEAR can end a stop and begin none. -/
theorem State.clearFaults_arbiterSound : s.clearFaults.arbiterSound := by
  have h := (State.arbiterSound_iff s).1 hs
  obtain ⟨⟨free, held, quiet⟩, cycle⟩ := h
  have fewer : s.clearFaults.stop = true → s.stop = true := by
    unfold State.clearFaults
    split
    · exact id
    · simp only [State.stop, State.changeFaults, State.notify_frame, setFaults_faults, State.uncleared, FaultSet.none,
        FaultSet.stop, Bool.or_eq_true, Bool.and_eq_true]
      exact Or.imp And.left And.left
  have same : s.clearFaults.on .hydReady = s.on .hydReady := by simp [State.on]
  rw [State.arbiterSound_iff, same]
  simp only [State.clearFaults_frame]
  exact ⟨⟨free, held, fun stop => quiet (fewer stop)⟩, cycle⟩

theorem State.view_arbiterSound (v : FieldView) : (s.view v).arbiterSound :=
  State.arbiterSound_of_view (s := (s.sense .knifeTop v.knifeTop).sense .clampTop v.clampTop) rfl
    (State.sense_arbiterSound (State.sense_arbiterSound hs _) _)

theorem State.breakCurtain_arbiterSound : s.breakCurtain.arbiterSound := by
  have broken := State.sense_arbiterSound (x := .curtain) hs true
  have paused : (((s.sense .curtain true).setGauge (s.sense .curtain true).gauge.pause).setJogger
      (s.sense .curtain true).jogger.pause).arbiterSound := State.arbiterSound_of_view (s := s.sense .curtain true) rfl broken
  unfold State.breakCurtain
  dsimp only
  split
  · exact State.withdrawCut_arbiterSound paused
  · split
    · exact State.abortCycle_arbiterSound paused false
    · exact paused

theorem State.pressHand_arbiterSound : s.pressHand.arbiterSound := by
  unfold State.pressHand
  split
  · exact State.arbiterSound_setMonitor hs rfl rfl
  · split
    · exact State.engage_arbiterSound (State.arbiterSound_setMonitor hs rfl rfl)
    · exact hs
  · exact hs
  · exact hs

theorem State.releaseHand_arbiterSound : s.releaseHand.arbiterSound := by
  have spent : (s.setCycle (s.cycle.setMonitor .spent)).arbiterSound := State.arbiterSound_setMonitor hs rfl rfl
  unfold State.releaseHand
  dsimp only
  split
  · exact hs
  · split
    · exact State.arbiterSound_setMonitor hs rfl rfl
    · exact hs
  · unfold State.releaseEngaged
    dsimp only
    split
    · next w => exact State.withdrawCycle_arbiterSound spent w
    · split
      · exact State.abortCycle_arbiterSound spent false
      · exact spent
  · exact hs

theorem State.endDwell_arbiterSound : s.endDwell.arbiterSound := by
  unfold State.endDwell
  split
  · next dwell =>
    have moving : s.cycle.moving = true := by simp [Cycle.moving, dwell]
    split
    · exact State.abortCycle_arbiterSound hs false
    · dsimp only
      split
      · exact State.arbiterSound_move hs moving rfl
      · exact State.arbiterSound_setMonitor hs rfl rfl
  · exact hs

theorem State.reachPressure_arbiterSound : s.reachPressure.arbiterSound := by
  unfold State.reachPressure
  split
  · next clamping =>
    have moving : s.cycle.moving = true := by simp [Cycle.moving, clamping]
    dsimp only
    split
    · exact State.endDwell_arbiterSound (State.arbiterSound_move hs moving rfl)
    · exact State.arbiterSound_move hs moving rfl
  · exact hs

theorem State.clampHome_arbiterSound : s.clampHome.arbiterSound := by
  unfold State.clampHome
  split
  · next h =>
    refine State.endCycle_arbiterSound hs ?_
    rintro w
    simp [w] at h
  · exact hs

theorem State.checkPosition_arbiterSound : s.checkPosition.arbiterSound := by
  unfold State.checkPosition
  repeat' split
  · exact State.arbiterSound_of_view (State.hydView_of_fields (by simp) (by simp) (by simp) (by simp)) hs
  · unfold State.correct
    split
    · exact State.arbiterSound_of_view rfl hs
    · exact State.axisFault_arbiterSound hs _ _
  · exact hs

theorem State.pileArrives_arbiterSound (reading : Nat) : (s.pileArrives reading).arbiterSound := by
  unfold State.pileArrives
  repeat' split
  · exact State.arbiterSound_of_view (s := s) rfl hs
  · exact State.latch_arbiterSound (by exact State.arbiterSound_of_view (s := s) rfl hs) _
  · exact hs
  · exact hs

theorem State.pileLeaves_arbiterSound : s.pileLeaves.arbiterSound := by
  unfold State.pileLeaves
  split
  case h_1 | h_2 => exact State.latch_arbiterSound (by exact State.arbiterSound_of_view (s := s) rfl hs) _
  all_goals exact State.arbiterSound_of_view (s := s) rfl hs

theorem State.liftMotionDone_arbiterSound (holder : s.arbiter.holder = some .lift) : s.liftMotionDone.arbiterSound := by
  have given : (s.setInfeed { s.infeed with liftTimer := Timer.stopped, pickHeight := none, liftOrphan := none }).release.arbiterSound :=
    State.release_infeed_arbiterSound (q := .lift) (State.arbiterSound_of_view (s := s) rfl hs) (by simp) holder
  unfold State.liftMotionDone
  generalize (s.setInfeed { s.infeed with liftTimer := Timer.stopped, pickHeight := none, liftOrphan := none }).release = u at given
  dsimp only
  split
  · exact given
  · unfold State.liftDone
    repeat' split
    · exact State.arbiterSound_of_view (State.hydView_of_fields (by simp) (by simp) (by simp) (by simp)) given
    · unfold State.missPick
      dsimp only
      split
      · exact State.latch_arbiterSound (by exact State.arbiterSound_of_view (s := u) rfl given) _
      · exact State.arbiterSound_of_view (s := u) rfl given
    · exact given
    · exact State.arbiterSound_of_view (State.hydView_of_fields (by simp) (by simp) (by simp) (by simp)) given
    all_goals exact State.arbiterSound_of_view (s := u) rfl given

theorem State.turnerMotionDone_arbiterSound (holder : s.arbiter.holder = some .turn) : s.turnerMotionDone.arbiterSound :=
  State.release_infeed_arbiterSound (q := .turn) (State.arbiterSound_of_view (s := s) rfl hs) (by simp) holder

end

theorem Cycle.refresh_state (c : Cycle) (left right : Bool) : (c.refresh left right).state = c.state := by
  unfold Cycle.refresh
  split <;> rfl

theorem Cycle.refresh_purpose (c : Cycle) (left right : Bool) : (c.refresh left right).purpose = c.purpose := by
  unfold Cycle.refresh
  split <;> rfl

/-- The cycle after a reset is at rest. -/
theorem Cycle.reset_state (top left right : Bool) :
    ((Cycle.reset top).refresh left right).state = .ready ∨ ((Cycle.reset top).refresh left right).state = .returnNeeded := by
  rw [Cycle.refresh_state]
  cases top <;> simp [Cycle.reset]

/-- After a reset the unit is at rest, and so is the cycle. -/
theorem State.blocksReset_arbiterSound (s : State) (i : Inputs) (c : Channels) (valid : Bool) (pos : Int) (st : Store) :
    (s.blocksReset i c valid pos st).arbiterSound := by
  have rest := Cycle.reset_state (i.on .knifeTop && i.on .clampTop) (i.on .handL) (i.on .handR)
  refine (State.arbiterSound_iff _).2 ⟨Arbiter.agrees_clear _ _, Cycle.agrees_of_rest ?_ ?_ (by simp [State.blocksReset, Arbiter.reset]) rfl⟩ <;>
    rcases rest with h | h <;> simp [State.blocksReset, Cycle.moving, h]

/-- The resets. -/
theorem State.resetNotices_arbiterSound {s : State} (hs : s.arbiterSound) : s.resetNotices.arbiterSound :=
  State.arbiterSound_of_view (State.hydView_of_fields (by simp) (by simp) (by simp) (by simp)) hs

section
variable {s : State} (hs : s.arbiterSound)
include hs

theorem own_powerOnReset_arbiterSound (contacts : Contacts) (signals : Signals) : (ownEffect (.powerOnReset contacts signals) s).arbiterSound := by
  exact State.resetNotices_arbiterSound (State.arbiterSound_of_view
    (s := s.blocksReset (seedInputs (rawLevel contacts)) (readSignals signals) false 0 s.storeAtPower) rfl
    (State.blocksReset_arbiterSound ..))

theorem own_frameSent_arbiterSound : (ownEffect .frameSent s).arbiterSound := by
  simp only [ownEffect]
  split
  · exact State.resetNotices_arbiterSound (State.blocksReset_arbiterSound ..)
  · exact State.arbiterSound_of_view (s := s) rfl hs

theorem own_withdraw_arbiterSound : (ownEffect .withdraw s).arbiterSound := by
  simp only [ownEffect, State.serve]
  repeat' split
  · exact hs
  · exact withdrawJob_arbiterSound (s := s.dequeue) (State.arbiterSound_of_view (s := s) rfl hs) _
  · exact State.arbiterSound_of_view (s := s) rfl hs

theorem own_clear_arbiterSound (v : FieldView) : (ownEffect (.clear v) s).arbiterSound := by
  simp only [ownEffect, State.serve]
  repeat' split
  · exact hs
  · have cleared : (s.dequeue.view v).clearFaults.arbiterSound :=
      State.clearFaults_arbiterSound (State.view_arbiterSound (State.arbiterSound_of_view (s := s) rfl hs) v)
    exact State.arbiterSound_of_view (s := (s.dequeue.view v).clearFaults) rfl cleared
  · exact State.arbiterSound_of_view (s := s) rfl hs

theorem own_handRelease_arbiterSound (hand : Hand) : (ownEffect (.handRelease hand) s).arbiterSound := by
  have released := State.releaseHand_arbiterSound (State.sense_arbiterSound hs (x := handSwitch hand) false (by cases hand <;> decide))
  exact State.arbiterSound_setMonitor released (Cycle.refresh_state ..) (Cycle.refresh_purpose ..)

theorem own_encoderStep_arbiterSound (dir : EncoderDir) : (ownEffect (.encoderStep dir) s).arbiterSound := by
  have counted : (s.setGauge (s.gauge.count dir)).arbiterSound := State.arbiterSound_of_view (s := s) rfl hs
  simp only [ownEffect]
  split
  · exact State.latch_arbiterSound counted _
  · exact counted

theorem own_clampBottom_arbiterSound (h : Nat) : (ownEffect (.clampBottom h) s).arbiterSound := by
  simp only [ownEffect]
  split
  · next cond =>
    simp only [Bool.and_eq_true, decide_eq_true_eq] at cond
    have read : (s.setChannels { s.channels with clampHeight := h }).arbiterSound := State.arbiterSound_of_view (s := s) rfl hs
    exact State.latch_arbiterSound (State.arbiterSound_move read (by simp [Cycle.moving, cond.1]) rfl) _
  · exact State.arbiterSound_of_view (s := s) rfl hs

theorem own_knifeBottomActive_arbiterSound : (ownEffect .knifeBottomActive s).arbiterSound := by
  have sensed := State.sense_arbiterSound (x := .knifeBottom) hs true
  simp only [ownEffect]
  split
  · next down =>
    have up := State.arbiterSound_move (c := { s.cycle with state := .strokeUp, counted := true }) sensed (by simp [Cycle.moving, down]) rfl
    exact State.arbiterSound_of_view (State.hydView_of_fields (by simp) (by simp) (by simp) (by simp)) up
  · exact sensed

theorem own_motionDone_arbiterSound (unit : InfeedUnit) (held : Bool) (reading : Nat) : (ownEffect (.motionDone unit held reading) s).arbiterSound := by
  have read : (((s.sense (unitDone unit) true).sense .reamHeld held).readPile reading).arbiterSound :=
    State.arbiterSound_of_view (s := (s.sense (unitDone unit) true).sense .reamHeld held) rfl
      (State.sense_arbiterSound (State.sense_arbiterSound hs _ (by cases unit <;> decide)) _)
  simp only [ownEffect]
  split
  · next holder =>
    cases unit
    · exact State.turnerMotionDone_arbiterSound read (by simpa [unitRequester] using holder)
    · exact State.liftMotionDone_arbiterSound read (by simpa [unitRequester] using holder)
  · exact read

theorem own_jogTimerExpiry_arbiterSound : (ownEffect .jogTimerExpiry s).arbiterSound := by
  simp only [ownEffect, State.jogTimeout]
  split
  · split
    · exact State.arbiterSound_of_view (State.hydView_of_fields (by simp) (by simp) (by simp) (by simp))
        (State.latch_arbiterSound (s := s.setJogger { s.jogger.endJog .failed with pass := 0 })
          (State.arbiterSound_of_view (s := s) rfl hs) .jogFailed)
    · exact State.arbiterSound_of_view (s := s) rfl hs
  · exact hs

theorem own_transferTimerExpiry_arbiterSound : (ownEffect .transferTimerExpiry s).arbiterSound := by
  simp only [ownEffect, State.transferTimeout]
  split
  · exact State.latch_arbiterSound (by exact State.arbiterSound_of_view (s := s) rfl hs) _
  · exact hs

theorem own_hydReadyActive_arbiterSound : (ownEffect .hydReadyActive s).arbiterSound := by
  obtain ⟨⟨free, held, quiet⟩, grant, request, purpose⟩ := (State.arbiterSound_iff s).1 hs
  simp only [ownEffect]
  split
  · next unit =>
    refine (State.arbiterSound_iff _).2 ⟨⟨?_, fun q hq => ?_, quiet⟩, grant, request, purpose⟩
    · simp [State.on, State.sense_filtered, freeUnit]
    · simpa [unit] using (held q hq).1
  · next unit =>
    refine (State.arbiterSound_iff _).2 ⟨⟨fun hn => ?_, by simpa using held, by simpa [State.stop] using quiet⟩, ?_⟩
    · simp at hn
      have := free hn
      cases s.on .hydReady <;> simp_all [freeUnit]
    · simpa using ⟨grant, request, purpose⟩

theorem own_hydReadyInactive_arbiterSound : (ownEffect .hydReadyInactive s).arbiterSound := by
  obtain ⟨⟨free, held, quiet⟩, grant, request, purpose⟩ := (State.arbiterSound_iff s).1 hs
  simp only [ownEffect]
  split
  · next unit =>
    refine State.latch_arbiterSound ((State.arbiterSound_iff _).2 ⟨⟨fun hn => ?_, by simpa using held, by simpa [State.stop] using quiet⟩, ?_⟩) _
    · simp at hn
      have := free hn
      cases ready : s.on .hydReady <;> simp [freeUnit, unit, ready] at this
    · simpa using ⟨grant, request, purpose⟩
  · next unit =>
    refine (State.arbiterSound_iff _).2 ⟨⟨?_, fun q hq => ?_, quiet⟩, grant, request, purpose⟩
    · simp [State.on, State.sense_filtered, freeUnit]
    · simpa [unit] using (held q hq).1
  · next unit =>
    refine (State.arbiterSound_iff _).2 ⟨⟨?_, by simpa using held, by simpa [State.stop] using quiet⟩, by simpa using ⟨grant, request, purpose⟩⟩
    simp [unit, freeUnit]

theorem own_windowExpiry_arbiterSound : (ownEffect .windowExpiry s).arbiterSound := by
  simp only [ownEffect]
  split
  · exact State.arbiterSound_setMonitor hs rfl rfl
  · exact hs

theorem own_searchLimitExpiry_arbiterSound : (ownEffect .searchLimitExpiry s).arbiterSound := by
  simp only [ownEffect]
  split
  · exact State.axisFault_arbiterSound hs _ _
  · exact hs

theorem own_encoderStall_arbiterSound : (ownEffect .encoderStall s).arbiterSound := by
  simp only [ownEffect]
  split
  · exact State.axisFault_arbiterSound hs _ _
  · exact hs

theorem own_clampPressureActive_arbiterSound (h : Nat) : (ownEffect (.clampPressureActive h) s).arbiterSound := by
  simp only [ownEffect]
  exact State.reachPressure_arbiterSound
    (State.arbiterSound_of_view (s := s.sense .clampPressure true) rfl (State.sense_arbiterSound hs _))

theorem own_clampPressureInactive_arbiterSound : (ownEffect .clampPressureInactive s).arbiterSound := by
  have sensed := State.sense_arbiterSound (x := .clampPressure) hs false
  simp only [ownEffect]
  split
  · exact State.abortCycle_arbiterSound sensed false
  · exact sensed

theorem own_knifeTopActive_arbiterSound : (ownEffect .knifeTopActive s).arbiterSound := by
  have sensed := State.sense_arbiterSound (x := .knifeTop) hs true
  simp only [ownEffect]
  split
  · next up => exact State.arbiterSound_move sensed (by simp [Cycle.moving, up]) rfl
  · exact sensed

theorem own_plateFittedInactive_arbiterSound : (ownEffect .plateFittedInactive s).arbiterSound := by
  have sensed := State.sense_arbiterSound (x := .plateFitted) hs false
  simp only [ownEffect]
  split
  · exact State.latch_arbiterSound sensed _
  · exact sensed

theorem own_pilePresentActive_arbiterSound (h : Nat) : (ownEffect (.pilePresentActive h) s).arbiterSound := by
  simp only [ownEffect]
  exact State.pileArrives_arbiterSound
    (by exact State.arbiterSound_of_view (s := s.sense .pilePresent true) rfl (State.sense_arbiterSound hs _)) _

theorem own_motionTimerExpiry_arbiterSound (unit : InfeedUnit) : (ownEffect (.motionTimerExpiry unit) s).arbiterSound := by
  simp only [ownEffect]
  split
  · exact State.latch_arbiterSound hs _
  · exact hs

/-- Every own effect keeps the agreement. -/
theorem ownEffect_arbiterSound (c : Instr) : (ownEffect c s).arbiterSound := by
  have other : touchesCut c = false → (ownEffect c s).arbiterSound := fun h =>
    State.arbiterSound_of_view (ownEffect_hydView c s h) hs
  cases c
  case powerOnReset contacts signals => exact own_powerOnReset_arbiterSound hs contacts signals
  case frameSent => exact own_frameSent_arbiterSound hs
  case withdraw => exact own_withdraw_arbiterSound hs
  case clear v => exact own_clear_arbiterSound hs v
  case resetBtn v =>
    exact State.clearFaults_arbiterSound (State.view_arbiterSound (State.sense_arbiterSound hs _) v)
  case eStopOpen => exact State.latch_arbiterSound (State.sense_arbiterSound hs _) _
  case curtainBroken => exact State.breakCurtain_arbiterSound hs
  case curtainClear => exact State.arbiterSound_of_view (s := s.sense .curtain false) rfl (State.sense_arbiterSound hs _)
  case handPress hand => exact State.pressHand_arbiterSound (State.sense_arbiterSound hs _ (by cases hand <;> decide))
  case handRelease hand => exact own_handRelease_arbiterSound hs hand
  case windowExpiry => exact own_windowExpiry_arbiterSound hs
  case encoderStep dir => exact own_encoderStep_arbiterSound hs dir
  case settleExpiry => exact State.checkPosition_arbiterSound hs
  case searchLimitExpiry => exact own_searchLimitExpiry_arbiterSound hs
  case encoderStall => exact own_encoderStall_arbiterSound hs
  case clampPressureActive h => exact own_clampPressureActive_arbiterSound hs h
  case clampPressureInactive => exact own_clampPressureInactive_arbiterSound hs
  case clampBottom h => exact own_clampBottom_arbiterSound hs h
  case dwellExpiry => exact State.endDwell_arbiterSound hs
  case knifeBottomActive => exact own_knifeBottomActive_arbiterSound hs
  case knifeTopActive => exact own_knifeTopActive_arbiterSound hs
  case clampTopActive => exact State.clampHome_arbiterSound (State.sense_arbiterSound hs _)
  case plateFittedInactive => exact own_plateFittedInactive_arbiterSound hs
  case pilePresentActive h => exact own_pilePresentActive_arbiterSound hs h
  case pilePresentInactive => exact State.pileLeaves_arbiterSound (State.sense_arbiterSound hs _)
  case motionDone unit held reading => exact own_motionDone_arbiterSound hs unit held reading
  case motionTimerExpiry unit => exact own_motionTimerExpiry_arbiterSound hs unit
  case jogTimerExpiry => exact own_jogTimerExpiry_arbiterSound hs
  case transferTimerExpiry => exact own_transferTimerExpiry_arbiterSound hs
  case hydReadyActive => exact own_hydReadyActive_arbiterSound hs
  case hydReadyInactive => exact own_hydReadyInactive_arbiterSound hs
  all_goals exact other rfl

end

/-! ### A millisecond -/

@[simp] theorem Cycle.tick_state (c : Cycle) : c.tick.state = c.state := rfl

@[simp] theorem Cycle.tick_purpose (c : Cycle) : c.tick.purpose = c.purpose := rfl

@[simp] theorem Cycle.tick_monitor (c : Cycle) : c.tick.monitor = c.monitor := rfl

@[simp] theorem Cycle.tick_moving (c : Cycle) : c.tick.moving = c.moving := rfl

@[simp] theorem Cycle.tick_cutting (c : Cycle) : c.tick.cutting = c.cutting := rfl

theorem State.tick_cycle (s : State) : s.tick.cycle = s.cycle.tick := by
  unfold State.tick State.sampleField State.runTimes
  split <;> simp

theorem State.tick_arbiter (s : State) : s.tick.arbiter = s.arbiter.tick := by
  unfold State.tick State.sampleField State.runTimes
  split <;> simp

/-- An input whose two changes both have a command keeps its filtered state at a sample. -/
theorem State.tick_on (s : State) {x : Switch} (rowed : ∀ (u : State) (level : Bool), (changeOf u x level).isSome = true) :
    s.tick.on x = s.on x := by
  have sampled (u : State) (raw : Switch → Bool) :
      ((u.sampleInputs raw).inputs.get x).filtered = (u.inputs.get x).filtered := by
    rw [State.sampleInputs_get]
    obtain h | h | h | h := InputState.sample_cases (u.inputs.get x) (raw x) (stableCount u.store.consts x)
      (x = .eStop && raw x) (changeOf u x (raw x)).isSome
    · rw [h.2]
    · rw [h.2.2.2]
    · simp [rowed] at h
    · rw [h.2.2.2]
  unfold State.on State.tick State.sampleField State.runTimes
  split <;> simp [sampled]

theorem State.tick_hydView (s : State) :
    s.tick.on .hydReady = s.on .hydReady ∧ s.tick.on .curtain = s.on .curtain ∧ s.tick.on .handL = s.on .handL ∧
      s.tick.on .handR = s.on .handR ∧ s.tick.stop = s.stop :=
  ⟨s.tick_on (by intro u b; cases b <;> rfl), s.tick_on (by intro u b; cases b <;> rfl),
    s.tick_on (by intro u b; cases b <;> rfl), s.tick_on (by intro u b; cases b <;> rfl), by simp [State.stop]⟩

theorem State.tick_arbiterSound {s : State} (hs : s.arbiterSound) : s.tick.arbiterSound := by
  obtain ⟨free, held, quiet, grant, request, purpose⟩ := hs
  obtain ⟨ready, -, -, -, stop⟩ := s.tick_hydView
  have waiting (q : Requester) : s.tick.arbiter.waiting q = (s.arbiter.waiting q).map (· + 1) := by
    rw [State.tick_arbiter]
    cases q <;> rfl
  have cut : s.tick.arbiter.cut.isSome = s.arbiter.cut.isSome := by simp [State.tick_arbiter, Arbiter.tick]
  have same : s.tick.arbiter.holder = s.arbiter.holder ∧ s.tick.arbiter.unit = s.arbiter.unit := by
    rw [State.tick_arbiter]
    exact ⟨rfl, rfl⟩
  refine ⟨?_, fun q hq => ?_, fun h => ?_, ?_, ?_, ?_⟩
  · simpa [ready, same] using free
  · simpa [waiting, same] using held q (same.1 ▸ hq)
  · simpa [waiting, same] using quiet (stop ▸ h)
  · simpa [State.tick_cycle, same] using grant
  · simpa [State.tick_cycle, cut] using request
  · simpa [State.tick_cycle] using purpose

/-- Settles O57: every operation on the Arbiter or on the cycle keeps the agreement, and the rest of a step does not touch it. -/
theorem arbiterStaysSound : Obligations.ArbiterStaysSound := by
  intro s t hs h
  exact step_keeps State.arbiterSound (fun c _ hs => ownEffect_arbiterSound hs c) (fun _ _ hs ht => react_arbiterSound hs ht)
    (fun s hs => State.arbiterSound_of_view (State.hydView_of_fields (by simp) (by simp) (by simp) (by simp)) hs)
    (fun s q hs => State.arbiterSound_of_view (s := s) rfl hs)
    (fun s hs => State.arbiterSound_of_view (State.hydView_of_fields (by simp) (by simp) (by simp) (by simp)) hs)
    (fun s hs => State.tick_arbiterSound hs) hs h

end Sys2Proof.Machine
end

section
/-! The knife goes down only under both hands, a clear curtain and no stop (R105, R109, R113, R116, R121). -/
namespace Sys2Proof.Machine

/-! ### What most of a step can make of the cycle -/

/-- A cycle for a cut that clamps, dwells or strokes down, or whose request waits for the grant. -/
def Cycle.armed (c : Cycle) : Prop := (c.cutting = true ∨ c.state = .waitGrant) ∧ c.purpose = some .cut

/-- `d` comes of `c` without an engagement, a start of the knife or a count: what all but four commands make of the cycle. -/
structure Cycle.Calms (c d : Cycle) : Prop where
  monitor : d.monitor = .engaged → c.monitor = .engaged
  armed : d.armed → c.armed ∧ (c.monitor = .engaged → d.monitor = .engaged)
  cutting : d.cutting = true → d.purpose = some .cut ∨ (c.cutting = true ∧ d.purpose = c.purpose)
  down : d.state = .strokeDown → c.state = .strokeDown
  counted : d.counted = true → c.counted = true

theorem Cycle.Calms.refl (c : Cycle) : c.Calms c :=
  ⟨id, fun h => ⟨h, id⟩, fun h => .inr ⟨h, rfl⟩, id, id⟩

theorem Cycle.Calms.trans {c d e : Cycle} (h : c.Calms d) (k : d.Calms e) : c.Calms e where
  monitor m := h.monitor (k.monitor m)
  armed a := ⟨(h.armed (k.armed a).1).1, (k.armed a).2 ∘ (h.armed (k.armed a).1).2⟩
  cutting a := by
    rcases k.cutting a with p | ⟨b, p⟩
    · exact .inl p
    · rcases h.cutting b with q | ⟨b', q⟩
      · exact .inl (p.trans q)
      · exact .inr ⟨b', p.trans q⟩
  down d := h.down (k.down d)
  counted n := h.counted (k.counted n)

/-- The same state, purpose, monitor and count. -/
theorem Cycle.Calms.of_same {c d : Cycle} (state : d.state = c.state) (purpose : d.purpose = c.purpose)
    (monitor : d.monitor = c.monitor) (counted : d.counted = c.counted) : c.Calms d := by
  refine ⟨by simp [monitor], fun h => ⟨?_, monitor.trans⟩, fun h => .inr ⟨?_, purpose⟩, by simp [state], by simp [counted]⟩
  · simpa [Cycle.armed, Cycle.cutting, state, purpose] using h
  · simpa [Cycle.cutting, state] using h

/-- A cycle that neither cuts nor waits. -/
theorem Cycle.Calms.of_rest {c d : Cycle} (cutting : d.cutting = false) (waits : d.state ≠ .waitGrant)
    (monitor : d.monitor = .engaged → c.monitor = .engaged) (counted : d.counted = true → c.counted = true) : c.Calms d := by
  refine ⟨monitor, fun h => ?_, by simp [cutting], fun h => ?_, counted⟩
  · simp [Cycle.armed, cutting, waits] at h
  · simp [Cycle.cutting, h] at cutting

/-- A cycle for no cut, with the state it had. -/
theorem Cycle.Calms.of_unarmed {c d : Cycle} (unarmed : ¬ d.armed) (state : d.state = c.state) (purpose : d.purpose = c.purpose)
    (monitor : d.monitor = .engaged → c.monitor = .engaged) (counted : d.counted = true → c.counted = true) : c.Calms d :=
  ⟨monitor, fun h => absurd h unarmed, fun h => .inr ⟨by simpa [Cycle.cutting, state] using h, purpose⟩, by simp [state], counted⟩

/-- An ENGAGED monitor that goes to SPENT is not ENGAGED. -/
theorem Monitor.engaged_of_spent {m : Monitor} (h : (if m = .engaged then .spent else m) = Monitor.engaged) : m = .engaged := by
  split at h <;> simp_all

theorem Cycle.aborted_calms (c : Cycle) (f : Bool) : c.Calms (c.aborted f) :=
  .of_rest rfl (by simp [Cycle.aborted, Cycle.spentTo]) Monitor.engaged_of_spent id

theorem Cycle.withdrawn_calms (c : Cycle) : c.Calms c.withdrawn := by
  refine .of_rest ?_ c.withdrawn_rest.2 Monitor.engaged_of_spent id
  rcases c.withdrawn_state with h | h <;> simp [Cycle.cutting, h]

theorem Cycle.ended_calms (c : Cycle) : c.Calms c.ended := by
  refine .of_rest rfl (by simp [Cycle.ended]) ?_ (by simp [Cycle.ended])
  unfold Cycle.ended Cycle.spend
  split <;> simp_all [Cycle.setMonitor]

/-! ### The same of the whole part -/

/-- The inputs behind the knife are as they were, and no stop begins over an armed cycle. -/
structure State.Calms (s t : State) : Prop where
  cycle : s.cycle.Calms t.cycle
  curtain : t.on .curtain = s.on .curtain
  handL : t.on .handL = s.on .handL
  handR : t.on .handR = s.on .handR
  stop : t.cycle.armed → s.stop = false → t.stop = false

theorem State.Calms.refl (s : State) : s.Calms s := ⟨.refl _, rfl, rfl, rfl, fun _ h => h⟩

theorem State.Calms.trans {s t u : State} (h : s.Calms t) (k : t.Calms u) : s.Calms u :=
  ⟨h.cycle.trans k.cycle, k.curtain.trans h.curtain, k.handL.trans h.handL, k.handR.trans h.handR,
    fun a c => k.stop a (h.stop (k.cycle.armed a).1 c)⟩

theorem State.Calms.of_view {s t : State} (h : t.hydView = s.hydView) : s.Calms t := by
  obtain ⟨-, state, purpose, monitor, -, curtain, left, right, stop, counted⟩ := State.hydView_eq_iff.1 h
  exact ⟨.of_same state purpose monitor counted, curtain, left, right, fun _ c => stop.trans c⟩

/-- Another cycle record. -/
theorem State.Calms.setCycle {s : State} {c : Cycle} (h : s.cycle.Calms c) : s.Calms (s.setCycle c) :=
  ⟨h, rfl, rfl, rfl, fun _ h => h⟩

/-- Only Arbiter, faults and the rest change, the stop not. -/
theorem State.Calms.of_same {s t : State} (cycle : t.cycle = s.cycle) (inputs : t.inputs = s.inputs)
    (stop : t.cycle.armed → s.stop = false → t.stop = false) : s.Calms t :=
  ⟨.of_same (by rw [cycle]) (by rw [cycle]) (by rw [cycle]) (by rw [cycle]), by simp [State.on, inputs], by simp [State.on, inputs],
    by simp [State.on, inputs], stop⟩

theorem State.knifeSafe_iff (s : State) :
    s.knifeSafe ↔ (s.cycle.armed → s.cycle.monitor = .engaged ∧ s.on .curtain = false ∧ s.stop = false) ∧
      (s.cycle.cutting = true → s.cycle.purpose = some .cut) ∧
      (s.cycle.monitor = .engaged → s.on .handL = true ∧ s.on .handR = true) := by
  unfold State.knifeSafe Cycle.armed
  constructor
  · rintro ⟨armed, hands⟩
    refine ⟨fun ⟨state, purpose⟩ => ?_, fun h => (armed (.inl h)).2.2.2, hands⟩
    obtain ⟨m, c, st, -⟩ := armed (state.imp id fun w => ⟨w, purpose⟩)
    exact ⟨m, c, st⟩
  · rintro ⟨armed, cutting, hands⟩
    refine ⟨fun h => ?_, hands⟩
    have purpose : s.cycle.purpose = some .cut := h.elim cutting And.right
    obtain ⟨m, c, st⟩ := armed ⟨h.imp id And.left, purpose⟩
    exact ⟨m, c, st, purpose⟩

theorem State.Calms.knifeSafe {s t : State} (h : s.Calms t) (hs : s.knifeSafe) : t.knifeSafe := by
  obtain ⟨armed, cutting, hands⟩ := (State.knifeSafe_iff s).1 hs
  refine (State.knifeSafe_iff t).2 ⟨fun a => ?_, fun c => ?_, fun m => ?_⟩
  · obtain ⟨was, monitor⟩ := h.cycle.armed a
    obtain ⟨m, c, st⟩ := armed was
    exact ⟨monitor m, h.curtain.trans c, h.stop a st⟩
  · rcases h.cycle.cutting c with p | ⟨was, p⟩
    · exact p
    · exact p.trans (cutting was)
  · rw [h.handL, h.handR]
    exact hands (h.cycle.monitor m)

/-! ### The operations -/

theorem State.abortCycle_calms (s : State) (f : Bool) : s.Calms (s.abortCycle f) := by
  cases h : s.cycle.cutting
  · simp [State.abortCycle, h, State.Calms.refl]
  · rw [State.abortCycle_eq s f h]
    exact (State.Calms.of_view (s := s) (t := s.setRunner s.runnerMarked) rfl).trans (.setCycle (s.cycle.aborted_calms f))

theorem State.withdrawCut_calms (s : State) : s.Calms s.withdrawCut := by
  unfold State.withdrawCut
  split
  · exact ⟨by simpa [State.withdrawCycle, State.withdrawRequest, Cycle.withdrawn_eq] using s.cycle.withdrawn_calms, rfl, rfl, rfl, fun _ h => h⟩
  · exact .refl s

theorem State.endCycle_calms (s : State) : s.Calms s.endCycle := by
  have e : s.endCycle.cycle = s.cycle.ended := by
    unfold State.endCycle
    split <;> simp [State.release]
  exact ⟨e ▸ s.cycle.ended_calms, by simp [State.on], by simp [State.on], by simp [State.on], fun _ h => by simpa [State.stop] using h⟩

theorem State.latch_calms (s : State) (k : FaultKind) : s.Calms (s.latch k) := by
  cases new : s.faults.has k
  case true => simp [State.latch, new, State.Calms.refl]
  case false =>
    have stop : ∀ {u : State}, u.faults = s.faults.put k true → k.isStop = false → s.stop = false → u.stop = false := by
      intro u hu hk hs
      simpa [State.stop, hu, FaultSet.stop_put, hk] using hs
    cases isStop : k.isStop
    case true =>
      have h := State.latch_stop s k new isStop
      obtain ⟨cutting, waits⟩ := h.cycle_rest
      have cutting : (s.latch k).cycle.cutting = false := by
        cases c : (s.latch k).cycle.cutting
        · rfl
        · simp [Cycle.moving_of_cutting c] at cutting
      obtain ⟨same, -, -, -, cycle, -⟩ := h
      refine ⟨.of_rest cutting waits ?_ ?_, same.on _, same.on _, same.on _, fun a => ?_⟩
      · rw [cycle]
        repeat' split
        · exact Monitor.engaged_of_spent
        · exact Monitor.engaged_of_spent
        · exact id
      · rw [cycle]
        repeat' split
        all_goals exact id
      · simp [Cycle.armed, cutting, waits] at a
    case false =>
      cases isGuillotine : k.isGuillotine
      case true =>
        obtain ⟨same, faults, -, -, cycle, -⟩ := State.latch_guillotine s k new isGuillotine
        refine ⟨?_, same.on _, same.on _, same.on _, fun _ => stop faults isStop⟩
        rw [cycle]
        repeat' split
        · exact s.cycle.aborted_calms true
        · exact s.cycle.withdrawn_calms
        · exact .refl _
      case false =>
        cases isInfeed : k.isInfeed
        case true =>
          obtain ⟨same, faults, -⟩ := State.latch_infeed s k new isInfeed
          exact .of_same same.cycle same.inputs fun _ => stop faults isStop
        case false =>
          have e : s.latch k = s.changeFaults (s.faults.put k true) := by
            simp [State.latch, new, isStop, isGuillotine, isInfeed]
          rw [e]
          exact .of_same (by simp) (by simp) fun _ => stop (by simp [State.changeFaults]) isStop

theorem State.axisFault_calms (s : State) (k : FaultKind) (valid : Bool) : s.Calms (s.axisFault k valid) := by
  have stands : s.Calms (s.faultAxis valid) := .of_view rfl
  have latched := stands.trans (State.latch_calms _ k)
  unfold State.axisFault
  dsimp only
  split
  · exact latched.trans (.of_view rfl)
  · exact latched

end Sys2Proof.Machine
end

section
/-! The reactions and the commands, as far as the knife goes (R105, R109, R113, R121), with the two statements on it. -/
namespace Sys2Proof.Machine

/-! ### The reactions -/

theorem State.backToPrepare_calms (s : State) : s.Calms s.backToPrepare := by
  unfold State.backToPrepare
  split
  · refine State.Calms.trans ?_ (State.withdrawCut_calms _)
    exact .of_view rfl
  · exact .refl s

theorem cycleUnstop_calms {s t : State} (ht : cycleUnstop s = some t) : s.Calms t := by
  rcases cycleUnstop_cases ht with ⟨stopped, -, rfl⟩ | ⟨stopped, -, rfl⟩
  · exact s.endCycle_calms
  · exact .setCycle (.of_rest rfl (by simp) id id)

theorem pileBack_calms {s t : State} (ht : pileBack s = some t) : s.Calms t := by
  rcases pileBack_cases ht with ⟨p, rfl⟩ | ⟨p, rfl⟩ | rfl
  · unfold State.resumeTurning
    split
    · exact .of_view rfl
    · exact s.latch_calms _
  · unfold State.resumeReady
    repeat' split
    · exact .of_view rfl
    · exact s.latch_calms _
    all_goals
      dsimp only
      split <;> exact .of_same (by simp) (by simp) fun _ h => by simpa [State.stop] using h
  · exact .of_view rfl

/-- Every reaction but a grant, which may send a cycle from WAIT_GRANT to CLAMPING. -/
theorem react_calms {s t : State} (ht : react s = some t) : hydGrant s = some t ∨ s.Calms t := by
  rcases react_hydView ht with grant | stop | start | pile | turn | lift | same
  · exact .inl grant
  · exact .inr (cycleUnstop_calms stop)
  · refine .inr ?_
    unfold startRevoked at start
    split at start <;> cases start
    exact s.backToPrepare_calms
  · exact .inr (pileBack_calms pile)
  · refine .inr (.of_same ?_ ?_ fun _ h => ?_) <;> simp [raiseTurn_frame s t turn, State.stop]
    exact h
  · refine .inr (.of_same ?_ ?_ fun _ h => ?_) <;> simp [raiseLift_frame s t lift, State.stop]
    exact h
  · exact .inr (.of_view same)

/-- A grant to CUT: its cycle from WAIT_GRANT to CLAMPING, or a RETURN that starts or ends. -/
theorem hydGrant_calms {s t : State} (waits : s.arbiter.cut.isSome = true → s.cycle.state = .waitGrant)
    (ht : hydGrant s = some t) : s.Calms t := by
  rcases hydGrant_cases ht with ⟨cut, rfl⟩ | ⟨-, rfl⟩ | ⟨-, rfl⟩
  · have waits := waits (Arbiter.choose_waiting cut)
    have up : ∀ {st : CycleState}, (st = .strokeUp ∨ st = .unclamp) →
        s.Calms ((s.setArbiter (s.arbiter.grant .cut)).setCycle { s.cycle with state := st }) := fun h =>
      ⟨.of_rest (by rcases h with rfl | rfl <;> rfl) (by rcases h with rfl | rfl <;> simp) id id, rfl, rfl, rfl, fun _ h => h⟩
    unfold State.grantCut
    split
    · next cut =>
      have cut : s.cycle.purpose = some .cut := cut
      have clamps : s.Calms ((s.setArbiter (s.arbiter.grant .cut)).setCycle { s.cycle with state := .clamping }) :=
        ⟨⟨id, fun _ => ⟨⟨.inr waits, cut⟩, id⟩, fun _ => .inl cut, nofun, id⟩, rfl, rfl, rfl, fun _ h => h⟩
      dsimp only
      split
      · exact clamps.trans (.of_view rfl)
      · exact clamps
    · repeat' split
      · exact up (.inl rfl)
      · exact up (.inr rfl)
      · exact (State.Calms.of_same (s := s) (t := s.setArbiter (s.arbiter.grant .cut)) rfl rfl fun _ h => h).trans
          (State.endCycle_calms _)
    · exact .of_same rfl rfl fun _ h => h
  · exact .of_same (by simp) (by simp) fun _ h => by simpa [State.stop] using h
  · exact .of_same (by simp) (by simp) fun _ h => by simpa [State.stop] using h

/-- No grant brings the knife down or counts a stroke. -/
theorem hydGrant_up {s t : State} (ht : hydGrant s = some t) :
    (t.cycle.state = .strokeDown → s.cycle.state = .strokeDown) ∧ (t.cycle.counted = true → s.cycle.counted = true) := by
  rcases hydGrant_cases ht with ⟨-, rfl⟩ | ⟨-, rfl⟩ | ⟨-, rfl⟩
  · unfold State.grantCut
    split
    · dsimp only
      split <;> simp
    · repeat' split
      · simp
      · simp
      · have h := ((s.setArbiter (s.arbiter.grant .cut)).endCycle_calms).cycle
        exact ⟨h.down, h.counted⟩
    · simp
  · simp
  · simp

/-! ### The commands -/

/-- A filtered change of an input that is not behind the knife. -/
theorem State.sense_calms (s : State) {x : Switch} (level : Bool)
    (hx : x ≠ .curtain ∧ x ≠ .handL ∧ x ≠ .handR := by decide) : s.Calms (s.sense x level) := by
  obtain ⟨curtain, left, right⟩ := hx
  refine ⟨.of_same rfl rfl rfl rfl, ?_, ?_, ?_, fun _ h => h⟩ <;>
    simp [State.sense_on, Ne.symm curtain, Ne.symm left, Ne.symm right]

section
variable (s : State)

theorem State.clearStations_calms (n : Nat) : s.Calms (s.clearStations n) := by
  have infeed : s.Calms (s.clearInfeed n) := .of_same (by simp) (by simp) fun _ h => by simpa [State.stop] using h
  have jogger : ∀ u : State, u.Calms u.clearJogger := fun u => .of_view rfl
  have runner : ∀ u : State, u.Calms u.clearRunner.withdrawCut := fun u => by
    refine State.Calms.trans ?_ (State.withdrawCut_calms _)
    exact .of_view rfl
  unfold State.clearStations
  dsimp only
  cases s.jogger.holds n <;> cases s.runnerHolds n
  · exact infeed
  · exact infeed.trans (runner _)
  · exact infeed.trans (jogger _)
  · exact (infeed.trans (jogger _)).trans (runner _)

theorem withdrawJob_calms (f : Frame) : s.Calms (withdrawJob f s) := by
  unfold withdrawJob
  split
  · exact .of_view rfl
  · next e _ =>
    have ended : s.Calms (s.endJob e .cancelled .withdrawn) :=
      .of_same (by simp) (by simp) fun _ h => by simpa [State.stop] using h
    have undone : s.Calms ((s.endJob e .cancelled .withdrawn).undoJob e) := by
      refine ended.trans ?_
      unfold State.undoJob
      split
      case h_3 => exact State.clearStations_calms _ _
      all_goals exact .of_view rfl
    exact undone.trans (.of_view rfl)

theorem State.clearFaults_calms : s.Calms s.clearFaults := by
  refine .of_same (by simp) (by simp) fun _ h => ?_
  unfold State.clearFaults
  split
  · exact h
  · simp only [State.stop, State.changeFaults, State.notify_frame, setFaults_faults, State.uncleared, FaultSet.none,
      FaultSet.stop, Bool.or_eq_false_iff] at h ⊢
    simp [h]

theorem State.view_calms (v : FieldView) : s.Calms (s.view v) :=
  ((s.sense_calms v.knifeTop).trans (State.sense_calms _ v.clampTop)).trans (.of_view rfl)

theorem State.clampHome_calms : s.Calms s.clampHome := by
  unfold State.clampHome
  split
  · exact s.endCycle_calms
  · exact .refl s

theorem State.checkPosition_calms : s.Calms s.checkPosition := by
  unfold State.checkPosition
  repeat' split
  · exact .of_view (State.hydView_of_fields (by simp) (by simp) (by simp) (by simp))
  · unfold State.correct
    split
    · exact .of_view rfl
    · exact s.axisFault_calms _ _
  · exact .refl s

theorem State.pileArrives_calms (reading : Nat) : s.Calms (s.pileArrives reading) := by
  unfold State.pileArrives
  repeat' split
  · exact .of_view rfl
  · refine State.Calms.trans ?_ (State.latch_calms _ _)
    exact .of_view rfl
  · exact .refl s
  · exact .refl s

theorem State.pileLeaves_calms : s.Calms s.pileLeaves := by
  unfold State.pileLeaves
  split
  case h_1 | h_2 =>
    refine State.Calms.trans ?_ (State.latch_calms _ _)
    exact .of_view rfl
  all_goals exact .of_view rfl

theorem State.liftMotionDone_calms : s.Calms s.liftMotionDone := by
  have given : s.Calms
      (s.setInfeed { s.infeed with liftTimer := Timer.stopped, pickHeight := none, liftOrphan := none }).release :=
    .of_same rfl rfl fun _ h => h
  refine given.trans ?_
  unfold State.liftMotionDone
  generalize (s.setInfeed { s.infeed with liftTimer := Timer.stopped, pickHeight := none, liftOrphan := none }).release = u
  dsimp only
  split
  · exact .refl u
  · unfold State.liftDone
    repeat' split
    · exact .of_view (State.hydView_of_fields (by simp) (by simp) (by simp) (by simp))
    · unfold State.missPick
      dsimp only
      split
      · refine State.Calms.trans ?_ (State.latch_calms _ _)
        exact .of_view rfl
      · exact .of_view rfl
    · exact .refl u
    · exact .of_view (State.hydView_of_fields (by simp) (by simp) (by simp) (by simp))
    all_goals exact .of_view rfl

theorem own_motionDone_calms (unit : InfeedUnit) (held : Bool) (reading : Nat) :
    s.Calms (ownEffect (.motionDone unit held reading) s) := by
  have read : s.Calms (((s.sense (unitDone unit) true).sense .reamHeld held).readPile reading) :=
    ((s.sense_calms _ (by cases unit <;> decide)).trans (State.sense_calms _ held)).trans (.of_view rfl)
  refine read.trans ?_
  simp only [ownEffect]
  split
  · cases unit
    · exact .of_same rfl rfl fun _ h => h
    · exact State.liftMotionDone_calms _
  · exact .refl _

theorem own_pilePresentActive_calms (h : Nat) : s.Calms (ownEffect (.pilePresentActive h) s) := by
  refine State.Calms.trans ?_ (State.pileArrives_calms _ _)
  exact (s.sense_calms (x := .pilePresent) true).trans (.of_view rfl)

theorem own_clear_calms (v : FieldView) : s.Calms (ownEffect (.clear v) s) := by
  simp only [ownEffect, State.serve]
  repeat' split
  · exact .refl s
  · have cleared := (s.dequeue.view_calms v).trans (State.clearFaults_calms _)
    exact ((State.Calms.of_view (s := s) (t := s.dequeue) rfl).trans cleared).trans (.of_view rfl)
  · exact .of_view rfl

theorem own_clampBottom_calms (h : Nat) : s.Calms (ownEffect (.clampBottom h) s) := by
  simp only [ownEffect]
  split
  · refine State.Calms.trans ?_ (State.latch_calms _ _)
    exact ⟨.of_rest rfl (by simp) id id, rfl, rfl, rfl, fun _ h => h⟩
  · exact .of_view rfl

theorem own_jogTimerExpiry_calms : s.Calms (ownEffect .jogTimerExpiry s) := by
  simp only [ownEffect, State.jogTimeout]
  repeat' split
  · have failed : s.Calms ((s.setJogger { s.jogger.endJog .failed with pass := 0 }).latch .jogFailed) := by
      refine State.Calms.trans ?_ (State.latch_calms _ _)
      exact .of_view rfl
    exact failed.trans (.of_view (State.hydView_of_fields (by simp) (by simp) (by simp) (by simp)))
  · exact .of_view rfl
  · exact .refl s

theorem own_transferTimerExpiry_calms : s.Calms (ownEffect .transferTimerExpiry s) := by
  simp only [ownEffect, State.transferTimeout]
  split
  · refine State.Calms.trans ?_ (State.latch_calms _ _)
    exact .of_view rfl
  · exact .refl s

theorem own_hydReadyInactive_calms : s.Calms (ownEffect .hydReadyInactive s) := by
  refine (s.sense_calms (x := .hydReady) false).trans ?_
  simp only [ownEffect]
  split
  · exact State.latch_calms _ _
  · exact .of_same rfl rfl fun _ h => h
  · exact .refl _

theorem own_encoderStep_calms (dir : EncoderDir) : s.Calms (ownEffect (.encoderStep dir) s) := by
  have counted : s.Calms (s.setGauge (s.gauge.count dir)) := .of_view rfl
  simp only [ownEffect]
  split
  · exact counted.trans (State.latch_calms _ _)
  · exact counted

end

/-- The commands that engage the two hands, move the inputs behind the knife, start it, count its stroke, or reset the part. -/
def handlesKnife (c : Instr) : Bool :=
  match c with
  | .powerOnReset .. | .frameSent | .curtainBroken | .curtainClear | .handPress _ | .handRelease _ | .clampPressureActive _
  | .dwellExpiry | .knifeBottomActive => true
  | _ => false

/-- Every other command leaves the knife's condition as it was. -/
theorem ownEffect_calms (c : Instr) (s : State) (hc : handlesKnife c = false) : s.Calms (ownEffect c s) := by
  have other : touchesCut c = false → s.Calms (ownEffect c s) := fun h => .of_view (ownEffect_hydView c s h)
  cases c <;> simp only [handlesKnife, Bool.true_eq_false] at hc
  case withdraw =>
    simp only [ownEffect, State.serve]
    repeat' split
    · exact .refl s
    · refine State.Calms.trans ?_ (withdrawJob_calms _ _)
      exact .of_view rfl
    · exact .of_view rfl
  case clear v => exact own_clear_calms s v
  case resetBtn v =>
    exact ((s.sense_calms _).trans (State.view_calms _ v)).trans (State.clearFaults_calms _)
  case eStopOpen => exact (s.sense_calms _).trans (State.latch_calms _ _)
  case windowExpiry =>
    simp only [ownEffect]
    split
    · next one =>
      exact .setCycle ⟨by simp [Cycle.setMonitor], fun h => ⟨h, by simp [one]⟩, fun h => .inr ⟨h, rfl⟩, id, id⟩
    · exact .refl s
  case encoderStep dir => exact own_encoderStep_calms s dir
  case settleExpiry => exact s.checkPosition_calms
  case searchLimitExpiry | encoderStall =>
    simp only [ownEffect]
    split
    · exact s.axisFault_calms _ _
    · exact .refl s
  case clampPressureInactive =>
    have sensed := s.sense_calms (x := .clampPressure) false
    simp only [ownEffect]
    split
    · exact sensed.trans (State.abortCycle_calms _ false)
    · exact sensed
  case clampBottom h => exact own_clampBottom_calms s h
  case knifeTopActive =>
    have sensed := s.sense_calms (x := .knifeTop) true
    simp only [ownEffect]
    split
    · exact sensed.trans (.setCycle (.of_rest rfl (by simp) id id))
    · exact sensed
  case clampTopActive => exact (s.sense_calms _).trans (State.clampHome_calms _)
  case plateFittedInactive =>
    have sensed := s.sense_calms (x := .plateFitted) false
    simp only [ownEffect]
    split
    · exact sensed.trans (State.latch_calms _ _)
    · exact sensed
  case pilePresentActive h => exact own_pilePresentActive_calms s h
  case pilePresentInactive => exact (s.sense_calms _).trans (State.pileLeaves_calms _)
  case motionDone unit held reading => exact own_motionDone_calms s unit held reading
  case motionTimerExpiry unit =>
    simp only [ownEffect]
    split
    · exact s.latch_calms _
    · exact .refl s
  case jogTimerExpiry => exact own_jogTimerExpiry_calms s
  case transferTimerExpiry => exact own_transferTimerExpiry_calms s
  case hydReadyActive =>
    have sensed := s.sense_calms (x := .hydReady) true
    simp only [ownEffect]
    split
    · exact sensed.trans (.of_same rfl rfl fun _ h => h)
    · exact sensed
  case hydReadyInactive => exact own_hydReadyInactive_calms s
  all_goals exact other rfl

end Sys2Proof.Machine
end

section
/-! The commands that do move the knife's conditions, and the two statements on the knife. -/
namespace Sys2Proof.Machine

/-! ### The hands, the curtain, the dwell and the resets -/

/-- A state with a cycle that neither cuts nor waits. -/
theorem State.knifeSafe_of_rest {s : State} (cutting : s.cycle.cutting = false) (waits : s.cycle.state ≠ .waitGrant)
    (hands : s.cycle.monitor = .engaged → s.on .handL = true ∧ s.on .handR = true) : s.knifeSafe :=
  (State.knifeSafe_iff s).2 ⟨fun h => by simp [Cycle.armed, cutting, waits] at h, by simp [cutting], hands⟩

/-- A state whose monitor is not ENGAGED, with a cycle for no cut. -/
theorem State.knifeSafe_of_spent {s : State} (unarmed : ¬ s.cycle.armed) (cutting : s.cycle.cutting = true → s.cycle.purpose = some .cut)
    (monitor : s.cycle.monitor ≠ .engaged) : s.knifeSafe :=
  (State.knifeSafe_iff s).2 ⟨fun h => absurd h unarmed, cutting, fun h => absurd h monitor⟩

/-- Abort and withdrawal leave no armed cycle. -/
theorem State.abortCycle_unarmed (s : State) (f : Bool) (waits : s.cycle.state ≠ .waitGrant) : ¬ (s.abortCycle f).cycle.armed := by
  cases h : s.cycle.cutting
  · simp [State.abortCycle, h, Cycle.armed, waits]
  · rw [State.abortCycle_eq s f h]
    simp [Cycle.armed, Cycle.cutting, Cycle.aborted, Cycle.spentTo]

theorem Cycle.backFromWait_unarmed (c : Cycle) : ¬ c.backFromWait.armed := by
  unfold Cycle.backFromWait Cycle.armed
  cases c.returnState <;> simp [ReturnState.cycleState, Cycle.cutting]

theorem State.withdrawCut_unarmed (s : State) (waits : s.cycle.state = .waitGrant) : ¬ s.withdrawCut.cycle.armed := by
  unfold State.withdrawCut
  split
  · exact Cycle.backFromWait_unarmed _
  · next h =>
    simp only [waits, decide_true, Bool.true_and, decide_eq_true_eq] at h
    exact fun a => h a.2

/-- A curtain break leaves no armed cycle, and a cycle that comes of the one before. -/
theorem State.breakCurtain_calm (s : State) :
    s.cycle.Calms s.breakCurtain.cycle ∧ ¬ s.breakCurtain.cycle.armed ∧ s.breakCurtain.on .handL = s.on .handL ∧
      s.breakCurtain.on .handR = s.on .handR := by
  have hands : s.breakCurtain.on .handL = s.on .handL ∧ s.breakCurtain.on .handR = s.on .handR := by
    have same : s.breakCurtain.inputs = (s.sense .curtain true).inputs := by
      unfold State.breakCurtain
      dsimp only
      repeat' split
      all_goals simp
    simp [State.on, same, State.sense_filtered]
  refine ⟨?_, ?_, hands⟩
  · unfold State.breakCurtain
    dsimp only
    generalize hu : State.setJogger _ _ = u
    have same : u.cycle = s.cycle := by
      rw [← hu]
      rfl
    rw [← same]
    repeat' split
    · exact u.withdrawCut_calms.cycle
    · exact (u.abortCycle_calms false).cycle
    · exact .refl _
  · unfold State.breakCurtain
    dsimp only
    split
    · next waits => exact State.withdrawCut_unarmed _ waits
    · next waits =>
      split
      · exact State.abortCycle_unarmed _ false waits
      · next purpose => exact fun a => purpose a.2

section
variable {s : State} (hs : s.knifeSafe)
include hs

theorem State.breakCurtain_knifeSafe : s.breakCurtain.knifeSafe := by
  obtain ⟨calm, unarmed, left, right⟩ := s.breakCurtain_calm
  obtain ⟨-, cutting, hands⟩ := (State.knifeSafe_iff s).1 hs
  refine (State.knifeSafe_iff _).2 ⟨fun a => absurd a unarmed, fun c => ?_, fun m => ?_⟩
  · rcases calm.cutting c with p | ⟨was, p⟩
    · exact p
    · exact p.trans (cutting was)
  · rw [left, right]
    exact hands (calm.monitor m)

theorem State.clearCurtain_knifeSafe : s.clearCurtain.knifeSafe := by
  obtain ⟨armed, cutting, hands⟩ := (State.knifeSafe_iff s).1 hs
  have inputs : s.clearCurtain.inputs = (s.sense .curtain false).inputs := rfl
  refine (State.knifeSafe_iff _).2 ⟨fun a => ⟨(armed a).1, ?_, (armed a).2.2⟩, cutting, fun m => ?_⟩
  · simp [State.on, inputs, State.sense_filtered]
  · simpa [State.on, inputs, State.sense_filtered] using hands m

/-- A button that is pressed breaks nothing. -/
theorem State.press_knifeSafe (hand : Hand) : (s.sense (handSwitch hand) true).knifeSafe := by
  obtain ⟨armed, cutting, hands⟩ := (State.knifeSafe_iff s).1 hs
  refine (State.knifeSafe_iff _).2 ⟨fun a => ⟨(armed a).1, ?_, (armed a).2.2⟩, cutting, fun m => ?_⟩
  · have := (armed a).2.1
    cases hand <;> simpa [handSwitch, State.sense_on] using this
  · obtain ⟨left, right⟩ := hands m
    cases hand <;> simp [handSwitch, State.sense_on, left, right]

/-- The engagement: a CUT request is raised only with the curtain clear and no stop (R105). -/
theorem State.engage_knifeSafe (one : s.cycle.monitor = .one) (left : s.on .handL = true) (right : s.on .handR = true) :
    (s.setCycle (s.cycle.setMonitor .engaged)).engage.knifeSafe := by
  have unarmed : ¬ s.cycle.armed := fun a => by simpa [one] using (((State.knifeSafe_iff s).1 hs).1 a).1
  have spent : ((s.setCycle (s.cycle.setMonitor .engaged)).setCycle (s.cycle.setMonitor .engaged).spend).knifeSafe := by
    refine State.Calms.knifeSafe ?_ hs
    exact .setCycle (.of_unarmed unarmed rfl rfl (by simp [Cycle.spend, Cycle.setMonitor]) id)
  unfold State.engage
  split
  case h_1 =>
    split
    · next cond =>
      simp only [Bool.and_eq_true, Bool.not_eq_true'] at cond
      obtain ⟨⟨-, curtain⟩, clear⟩ := cond
      have clear : s.faults.stop = false := clear
      have curtain : (s.inputs.get .curtain).filtered = false := curtain
      refine (State.knifeSafe_iff _).2 ⟨fun _ => ?_, ?_, fun _ => ?_⟩
      · simp [State.raiseCut, State.on, State.stop, Cycle.setMonitor, clear, curtain]
      · simp [State.raiseCut, Cycle.cutting]
      · simpa [State.raiseCut, State.on] using And.intro left right
    · exact spent
  case h_2 =>
    split
    · exact spent
    · refine (State.knifeSafe_iff _).2 ⟨fun a => ?_, ?_, fun _ => ?_⟩
      · simp [State.raiseReturn, Cycle.armed] at a
      · simp [State.raiseReturn, Cycle.cutting]
      · simpa [State.raiseReturn, State.on] using And.intro left right
  all_goals exact spent

theorem State.pressHand_knifeSafe : s.pressHand.knifeSafe := by
  unfold State.pressHand
  split
  · next idle =>
    exact State.Calms.knifeSafe (.setCycle ⟨by simp, fun a => ⟨a, by simp [idle]⟩, fun c => .inr ⟨c, rfl⟩, id, id⟩) hs
  · next one =>
    split
    · next both =>
      simp only [Bool.and_eq_true] at both
      exact State.engage_knifeSafe hs one both.1 both.2
    · exact hs
  · exact hs
  · exact hs

end

/-- A release of a button: no cycle stays armed, and no monitor ENGAGED. -/
theorem State.release_knifeSafe {s : State} (hand : Hand) (hs : s.knifeSafe) :
    (s.sense (handSwitch hand) false).releaseHand.knifeSafe ∧
      (s.sense (handSwitch hand) false).releaseHand.cycle.monitor ≠ .engaged := by
  obtain ⟨armed, cutting, -⟩ := (State.knifeSafe_iff s).1 hs
  have unarmed : s.cycle.monitor ≠ .engaged → ¬ s.cycle.armed := fun m a => m (armed a).1
  unfold State.releaseHand State.releaseEngaged
  dsimp only
  split
  · next idle =>
    have idle : s.cycle.monitor = .idle := idle
    have m : s.cycle.monitor ≠ .engaged := by simp [idle]
    exact ⟨State.knifeSafe_of_spent (unarmed m) cutting m, m⟩
  · next one =>
    have one : s.cycle.monitor = .one := one
    have m : s.cycle.monitor ≠ .engaged := by simp [one]
    split
    · exact ⟨State.knifeSafe_of_spent (unarmed m) cutting (by simp [Cycle.setMonitor]), by simp [Cycle.setMonitor]⟩
    · exact ⟨State.knifeSafe_of_spent (unarmed m) cutting m, m⟩
  · split
    · next waits =>
      have rest : (s.cycle.setMonitor .spent).backFromWait.cutting = true → False := by
        unfold Cycle.backFromWait
        cases h : s.cycle.returnState <;> simp [Cycle.setMonitor, h, ReturnState.cycleState, Cycle.cutting]
      exact ⟨State.knifeSafe_of_spent (Cycle.backFromWait_unarmed _) (fun c => (rest c).elim)
        (by simp [State.withdrawCycle, State.withdrawRequest, Cycle.backFromWait, Cycle.setMonitor]),
        by simp [State.withdrawCycle, State.withdrawRequest, Cycle.backFromWait, Cycle.setMonitor]⟩
    · next waits =>
      have waits : s.cycle.state ≠ .waitGrant := waits
      split
      · have calm := State.abortCycle_calms ((s.sense (handSwitch hand) false).setCycle (s.cycle.setMonitor .spent)) false
        have m : (((s.sense (handSwitch hand) false).setCycle (s.cycle.setMonitor .spent)).abortCycle false).cycle.monitor ≠
            .engaged := fun h => by simpa [Cycle.setMonitor] using calm.cycle.monitor h
        refine ⟨State.knifeSafe_of_spent (State.abortCycle_unarmed _ false waits) (fun c => ?_) m, m⟩
        rcases calm.cycle.cutting c with p | ⟨was, p⟩
        · exact p
        · exact p.trans (cutting was)
      · next purpose =>
        exact ⟨State.knifeSafe_of_spent (fun a => purpose a.2) cutting (by simp [Cycle.setMonitor]), by simp [Cycle.setMonitor]⟩
  · next spent =>
    have spent : s.cycle.monitor = .spent := spent
    have m : s.cycle.monitor ≠ .engaged := by simp [spent]
    exact ⟨State.knifeSafe_of_spent (unarmed m) cutting m, m⟩

/-- Another cycle record whose cutting, purpose and monitor are those of a cutting cycle. -/
theorem State.knifeSafe_setCycle {s : State} {c : Cycle} (hs : s.knifeSafe) (cuts : s.cycle.cutting = true)
    (purpose : c.purpose = s.cycle.purpose) (monitor : c.monitor = s.cycle.monitor) : (s.setCycle c).knifeSafe := by
  obtain ⟨armed, cutting, hands⟩ := (State.knifeSafe_iff s).1 hs
  refine (State.knifeSafe_iff _).2 ⟨fun a => ?_, fun _ => purpose.trans (cutting cuts), fun m => hands (monitor.symm.trans m)⟩
  obtain ⟨m, rest⟩ := armed ⟨.inl cuts, cutting cuts⟩
  exact ⟨monitor.trans m, rest⟩

section
variable {s : State} (hs : s.knifeSafe)
include hs

theorem State.endDwell_knifeSafe : s.endDwell.knifeSafe := by
  unfold State.endDwell
  split
  · next dwell =>
    have cuts : s.cycle.cutting = true := by simp [Cycle.cutting, dwell]
    split
    · exact (State.abortCycle_calms s false).knifeSafe hs
    · dsimp only
      split
      · exact State.knifeSafe_setCycle (State.knifeSafe_setCycle hs cuts rfl rfl) cuts rfl rfl
      · exact State.knifeSafe_setCycle hs cuts rfl rfl
  · exact hs

theorem State.reachPressure_knifeSafe : s.reachPressure.knifeSafe := by
  unfold State.reachPressure
  split
  · next clamping =>
    have cuts : s.cycle.cutting = true := by simp [Cycle.cutting, clamping]
    dsimp only
    split
    · exact State.endDwell_knifeSafe (State.knifeSafe_setCycle hs cuts rfl rfl)
    · exact State.knifeSafe_setCycle hs cuts rfl rfl
  · exact hs

end

theorem State.blocksReset_knifeSafe (s : State) (i : Inputs) (c : Channels) (valid : Bool) (pos : Int) (st : Store) :
    (s.blocksReset i c valid pos st).knifeSafe := by
  have rest := Cycle.reset_state (i.on .knifeTop && i.on .clampTop) (i.on .handL) (i.on .handR)
  refine State.knifeSafe_of_rest ?_ ?_ fun h => ?_
  · rcases rest with h | h <;> simp [State.blocksReset, Cycle.cutting, h]
  · rcases rest with h | h <;> simp [State.blocksReset, h]
  · have h : ((Cycle.reset (i.on .knifeTop && i.on .clampTop)).refresh (i.on .handL) (i.on .handR)).monitor = .engaged := h
    unfold Cycle.refresh at h
    split at h <;> simp [Cycle.setMonitor, Cycle.reset] at h

theorem State.resetNotices_knifeSafe {s : State} (hs : s.knifeSafe) : s.resetNotices.knifeSafe :=
  (State.Calms.of_view (State.hydView_of_fields (by simp) (by simp) (by simp) (by simp))).knifeSafe hs

/-! ### Every step -/

theorem ownEffect_knifeSafe (c : Instr) {s : State} (hs : s.knifeSafe) : (ownEffect c s).knifeSafe := by
  have other : handlesKnife c = false → (ownEffect c s).knifeSafe := fun h => (ownEffect_calms c s h).knifeSafe hs
  cases c
  case powerOnReset contacts signals =>
    refine State.resetNotices_knifeSafe (State.Calms.knifeSafe ?_
      (State.blocksReset_knifeSafe s (seedInputs (rawLevel contacts)) (readSignals signals) false 0 s.storeAtPower))
    exact .of_view rfl
  case frameSent =>
    simp only [ownEffect]
    split
    · exact State.resetNotices_knifeSafe (State.blocksReset_knifeSafe ..)
    · exact (State.Calms.of_view (s := s) rfl).knifeSafe hs
  case curtainBroken => exact State.breakCurtain_knifeSafe hs
  case curtainClear => exact State.clearCurtain_knifeSafe hs
  case handPress hand => exact State.pressHand_knifeSafe (State.press_knifeSafe hs hand)
  case handRelease hand =>
    obtain ⟨released, m⟩ := State.release_knifeSafe hand hs
    refine (State.Calms.setCycle ?_).knifeSafe released
    unfold Cycle.refresh
    split
    · exact ⟨by simp [Cycle.setMonitor], fun a => ⟨a, fun e => absurd e m⟩, fun c => .inr ⟨c, rfl⟩, id, id⟩
    · exact .refl _
  case clampPressureActive h =>
    refine State.reachPressure_knifeSafe (State.Calms.knifeSafe ?_ hs)
    exact (s.sense_calms (x := .clampPressure) true).trans (.of_view rfl)
  case dwellExpiry => exact State.endDwell_knifeSafe hs
  case knifeBottomActive =>
    have sensed := (s.sense_calms (x := .knifeBottom) true).knifeSafe hs
    simp only [ownEffect]
    split
    · have up : ((s.sense .knifeBottom true).setCycle { s.cycle with state := .strokeUp, counted := true }).knifeSafe :=
        State.knifeSafe_of_rest rfl (by simp) ((State.knifeSafe_iff _).1 sensed).2.2
      exact (State.Calms.of_view (State.hydView_of_fields (by simp) (by simp) (by simp) (by simp))).knifeSafe up
    · exact sensed
  all_goals exact other rfl

theorem State.tick_calms (s : State) : s.Calms s.tick := by
  obtain ⟨-, curtain, left, right, stop⟩ := s.tick_hydView
  exact ⟨by rw [State.tick_cycle]; exact .of_same rfl rfl rfl rfl, curtain, left, right, fun _ h => stop.trans h⟩

/-- Settles O58: a step engages, breaks, stops or releases the cycle, or leaves the knife's conditions as they were. -/
theorem knifeStaysSafe : Obligations.KnifeStaysSafe := by
  intro s t arb knife h
  have kept := step_keeps (fun u => u.arbiterSound ∧ u.knifeSafe)
    (fun c _ hu => ⟨ownEffect_arbiterSound hu.1 c, ownEffect_knifeSafe c hu.2⟩)
    (fun u v hu hv => by
      refine ⟨react_arbiterSound hu.1 hv, ?_⟩
      rcases react_calms hv with grant | calm
      · exact (hydGrant_calms hu.1.2.2.2.2.1.1 grant).knifeSafe hu.2
      · exact calm.knifeSafe hu.2)
    (fun u hu =>
      have same := State.hydView_of_fields (s := u) (t := u.transmit) (by simp) (by simp) (by simp) (by simp)
      ⟨State.arbiterSound_of_view same hu.1, (State.Calms.of_view same).knifeSafe hu.2⟩)
    (fun u q hu => ⟨State.arbiterSound_of_view (s := u) rfl hu.1, (State.Calms.of_view (s := u) rfl).knifeSafe hu.2⟩)
    (fun u hu =>
      have same := State.hydView_of_fields (s := u) (t := u.takeByte) (by simp) (by simp) (by simp) (by simp)
      ⟨State.arbiterSound_of_view same hu.1, (State.Calms.of_view same).knifeSafe hu.2⟩)
    (fun u hu => ⟨State.tick_arbiterSound hu.1, u.tick_calms.knifeSafe hu.2⟩) ⟨arb, knife⟩ h
  exact kept.2

end Sys2Proof.Machine
end

section
/-! The knife starts down, and the stroke is counted, in one place each (R109, R111). -/
namespace Sys2Proof.Machine

/-- `t` has the knife down, or the stroke counted, only where `s` has. -/
def State.Ups (s t : State) : Prop :=
  (t.cycle.state = .strokeDown → s.cycle.state = .strokeDown) ∧ (t.cycle.counted = true → s.cycle.counted = true)

theorem State.Ups.refl (s : State) : s.Ups s := ⟨id, id⟩

theorem State.Ups.trans {s t u : State} (h : s.Ups t) (k : t.Ups u) : s.Ups u := ⟨h.1 ∘ k.1, h.2 ∘ k.2⟩

theorem Cycle.Calms.ups {s t : State} (h : s.cycle.Calms t.cycle) : s.Ups t := ⟨h.down, h.counted⟩

theorem State.Ups.of_cycle {s t : State} (h : t.cycle = s.cycle) : s.Ups t := by
  unfold State.Ups
  rw [h]
  exact ⟨id, id⟩

theorem react_ups {s t : State} (ht : react s = some t) : s.Ups t := by
  rcases react_calms ht with grant | calm
  · exact hydGrant_up grant
  · exact calm.cycle.ups

/-- What comes after a command's own effect. -/
theorem State.finish_ups (s : State) : s.Ups s.finish ∧ s.Ups s.transmit := by
  have sent : ∀ u : State, u.Ups u.transmit := fun u => .of_cycle (by simp)
  refine ⟨?_, sent s⟩
  exact (settle_keeps_of_react (fun u => s.Ups u) (fun u v hu hv => hu.trans (react_ups hv)) s (.refl s)).trans (sent _)

theorem State.blocksReset_up (s : State) (i : Inputs) (c : Channels) (valid : Bool) (pos : Int) (st : Store) :
    (s.blocksReset i c valid pos st).cycle.state ≠ .strokeDown ∧ (s.blocksReset i c valid pos st).cycle.counted = false := by
  have counted : ((Cycle.reset (i.on .knifeTop && i.on .clampTop)).refresh (i.on .handL) (i.on .handR)).counted = false := by
    unfold Cycle.refresh
    split <;> rfl
  refine ⟨?_, counted⟩
  rcases Cycle.reset_state (i.on .knifeTop && i.on .clampTop) (i.on .handL) (i.on .handR) with h | h <;>
    simp [State.blocksReset, h]

theorem State.reset_ups {s t : State} (h : t.cycle.state ≠ .strokeDown ∧ t.cycle.counted = false) :
    s.Ups t.resetNotices := by
  refine State.Ups.trans (t := t) ⟨fun d => absurd d h.1, fun n => ?_⟩ (.of_cycle (by simp))
  simp [h.2] at n

/-- The monitor is no business of the knife's state and count. -/
theorem State.Ups.setCycle {s : State} {c : Cycle} (state : c.state = s.cycle.state) (counted : c.counted = s.cycle.counted) :
    s.Ups (s.setCycle c) := ⟨fun h => state.symm.trans h, fun h => counted.symm.trans h⟩

theorem State.engage_ups (s : State) : s.Ups s.engage := by
  have spent : s.Ups (s.setCycle s.cycle.spend) := by
    refine .setCycle ?_ ?_ <;> unfold Cycle.spend <;> split <;> rfl
  unfold State.engage
  split
  case h_1 =>
    split
    · simp [State.Ups, State.raiseCut]
    · exact spent
  case h_2 =>
    split
    · exact spent
    · simp [State.Ups, State.raiseReturn]
  all_goals exact spent

theorem State.pressHand_ups (s : State) : s.Ups s.pressHand := by
  unfold State.pressHand
  repeat' split
  · exact .setCycle rfl rfl
  · exact (State.Ups.setCycle (s := s) (c := s.cycle.setMonitor .engaged) rfl rfl).trans (State.engage_ups _)
  · exact .refl s
  · exact .refl s
  · exact .refl s

theorem State.withdrawCycle_ups (s : State) : s.Ups s.withdrawCycle := by
  unfold State.withdrawCycle State.withdrawRequest Cycle.backFromWait State.Ups
  cases s.cycle.returnState <;> simp [ReturnState.cycleState]

theorem State.releaseHand_ups (s : State) : s.Ups s.releaseHand := by
  unfold State.releaseHand State.releaseEngaged
  have spent : s.Ups (s.setCycle (s.cycle.setMonitor .spent)) := .setCycle rfl rfl
  dsimp only
  repeat' split
  · exact .refl s
  · exact .setCycle rfl rfl
  · exact .refl s
  · exact spent.trans (State.withdrawCycle_ups _)
  · exact spent.trans (State.abortCycle_calms _ false).cycle.ups
  · exact spent
  · exact .refl s

/-- The commands after which the knife can be on its way down. -/
def startsKnife (c : Instr) : Bool :=
  match c with
  | .clampPressureActive _ | .dwellExpiry => true
  | _ => false

/-- What every other command makes of the knife; KNIFE_BOTTOM counts the stroke in STROKE_DOWN alone. -/
theorem ownEffect_up (c : Instr) (s : State) (hc : startsKnife c = false) :
    ((ownEffect c s).cycle.state = .strokeDown → s.cycle.state = .strokeDown) ∧
      ((ownEffect c s).cycle.counted = true → s.cycle.counted = true ∨ s.cycle.state = .strokeDown) := by
  have of_ups (h : s.Ups (ownEffect c s)) :
      ((ownEffect c s).cycle.state = .strokeDown → s.cycle.state = .strokeDown) ∧
        ((ownEffect c s).cycle.counted = true → s.cycle.counted = true ∨ s.cycle.state = .strokeDown) :=
    ⟨h.1, fun n => .inl (h.2 n)⟩
  have other (h : handlesKnife c = false) := of_ups (ownEffect_calms c s h).cycle.ups
  cases c <;> simp only [startsKnife, Bool.true_eq_false] at hc
  case powerOnReset contacts signals =>
    exact of_ups (State.reset_ups
      (State.blocksReset_up s (seedInputs (rawLevel contacts)) (readSignals signals) false 0 s.storeAtPower))
  case frameSent =>
    refine of_ups ?_
    simp only [ownEffect]
    split
    · exact State.reset_ups (State.blocksReset_up ..)
    · exact .of_cycle rfl
  case curtainBroken => exact of_ups s.breakCurtain_calm.1.ups
  case curtainClear => exact of_ups (.of_cycle rfl)
  case handPress hand =>
    exact of_ups ((State.Ups.of_cycle (s := s) (t := s.sense (handSwitch hand) true) rfl).trans (State.pressHand_ups _))
  case handRelease hand =>
    have released := (State.Ups.of_cycle (s := s) (t := s.sense (handSwitch hand) false) rfl).trans (State.releaseHand_ups _)
    refine of_ups (released.trans (.setCycle (Cycle.refresh_state ..) ?_))
    unfold Cycle.refresh
    split <;> rfl
  case knifeBottomActive =>
    simp only [ownEffect]
    split
    · next down => exact ⟨fun _ => down, fun _ => .inr down⟩
    · exact ⟨id, .inl⟩
  all_goals exact other rfl

/-- The end of a dwell, and the pressure with a dwell of 0, start the knife under the conditions of R109 alone. -/
theorem State.endDwell_down {s : State} (h : s.endDwell.cycle.state = .strokeDown) :
    s.cycle.state = .strokeDown ∨ s.cycle.state = .dwell ∧ s.endDwell.mayStroke = true := by
  unfold State.endDwell at h ⊢
  split at h
  · next dwell =>
    refine .inr ⟨dwell, ?_⟩
    rw [if_pos dwell]
    split at h
    · next lost =>
      have := (State.abortCycle_calms s false).cycle.down h
      simp [dwell] at this
    · next pressed =>
      dsimp only at h ⊢
      rw [if_neg pressed]
      split at h
      · next may =>
        rw [if_pos may]
        exact may
      · simp [dwell] at h
  · exact .inl h

theorem State.reachPressure_down {s : State} (h : s.reachPressure.cycle.state = .strokeDown) :
    s.cycle.state = .strokeDown ∨ s.cycle.state = .clamping ∧ s.reachPressure.mayStroke = true := by
  unfold State.reachPressure at h ⊢
  split at h
  · next clamping =>
    refine .inr ⟨clamping, ?_⟩
    rw [if_pos clamping]
    dsimp only at h ⊢
    split at h
    · next zero =>
      rw [if_pos zero]
      rcases State.endDwell_down h with d | ⟨-, may⟩
      · simp at d
      · exact may
    · simp at h
  · exact .inl h

theorem State.counted_of_endDwell {s : State} (h : s.endDwell.cycle.counted = true) : s.cycle.counted = true := by
  unfold State.endDwell at h
  dsimp only at h
  repeat' split at h
  · exact (State.abortCycle_calms s false).cycle.counted h
  all_goals exact h

theorem State.counted_of_reachPressure {s : State} (h : s.reachPressure.cycle.counted = true) : s.cycle.counted = true := by
  unfold State.reachPressure at h
  dsimp only at h
  repeat' split at h
  · have n := State.counted_of_endDwell h
    exact n
  all_goals exact h

/-- The conditions of R109, one by one. -/
theorem State.mayStroke_iff (s : State) :
    s.mayStroke = true ↔
      s.cycle.monitor = .engaged ∧ s.on .curtain = false ∧ s.on .clampPressure = true ∧ s.stop = false := by
  simp [State.mayStroke, and_assoc]

/-- Settles O60: only the end of a dwell starts the knife, and only KNIFE_BOTTOM counts. -/
theorem knifeGoesDownOnlyUnderR109 : Obligations.KnifeGoesDownOnlyUnderR109 := by
  have sent (u : State) (x : Switch) : u.transmit.cycle = u.cycle ∧ u.transmit.on x = u.on x ∧ u.transmit.stop = u.stop := by
    simp [State.on, State.stop]
  refine ⟨fun s t h before after => ?_, fun c s t h before after => ?_⟩
  · rcases step_cases h with ⟨c, rest, -, h⟩ | ⟨q, rfl⟩ | rfl | rfl
    · cases hc : startsKnife c
      · have up := (ownEffect_up c (s.setPending rest) hc).1
        refine absurd (up ?_) before
        rcases exec_next h with rfl | rfl
        · exact (State.finish_ups _).1.1 after
        · exact (State.finish_ups _).2.1 after
      · have started : ∃ u : State, t = u.transmit ∧
            (s.cycle.state = .dwell ∨ s.cycle.state = .clamping) ∧ u.mayStroke = true := by
          cases c <;> simp only [startsKnife, Bool.false_eq_true] at hc
          case dwellExpiry =>
            have e : t = (s.setPending rest).endDwell.transmit := (Host.Outcome.next.inj h).symm
            rw [e, (sent _ .curtain).1] at after
            rcases State.endDwell_down after with d | ⟨d, may⟩
            · exact absurd d before
            · exact ⟨_, e, .inl d, may⟩
          case clampPressureActive height =>
            have e := (Host.Outcome.next.inj h).symm
            rw [e, (sent _ .curtain).1] at after
            rcases State.reachPressure_down after with d | ⟨d, may⟩
            · exact absurd d before
            · exact ⟨_, e, .inr d, may⟩
        obtain ⟨u, rfl, was, may⟩ := started
        rw [(sent u .curtain).1, (sent u .curtain).2.1, (sent u .clampPressure).2.1, (sent u .curtain).2.2]
        exact ⟨was, u.mayStroke_iff.1 may⟩
    · exact absurd after before
    · exact absurd (by simpa using after) before
    · exact absurd (by simpa [State.tick_cycle] using after) before
  · have counted : (ownEffect c s).cycle.counted = true := by
      rcases exec_next h with rfl | rfl
      · exact (State.finish_ups _).1.2 after
      · exact (State.finish_ups _).2.2 after
    cases hc : startsKnife c
    · rcases (ownEffect_up c s hc).2 counted with n | d
      · simp [before] at n
      · exact d
    · cases c <;> simp only [startsKnife, Bool.false_eq_true] at hc
      case dwellExpiry => simpa [before] using State.counted_of_endDwell counted
      case clampPressureActive height =>
        have n := State.counted_of_reachPressure counted
        have n : s.cycle.counted = true := n
        simp [before] at n

end Sys2Proof.Machine
end

section
/-! The state right after reset meets the five invariants. -/
namespace Sys2Proof.Machine

theorem State.reset_arbiterSound : State.reset.arbiterSound := by
  have idle : State.reset.arbiter.holder = none := rfl
  have rest : State.reset.cycle.moving = false ∧ State.reset.cycle.state ≠ .waitGrant := by decide +kernel
  refine ⟨fun _ => by decide +kernel, fun q h => by simp [idle] at h, fun _ => ⟨idle, fun q => by cases q <;> rfl⟩, ?_, ?_, ?_⟩
  · simp [idle, rest.1]
  · simp [rest.2, show State.reset.arbiter.cut = none from rfl]
  · exact fun w => absurd w rest.2

theorem State.reset_storeSound : State.reset.storeSound := by
  have classes : ∀ c ∈ State.reset.store.classes, firstBadClassField c = none := by decide +kernel
  exact ⟨by decide +kernel, by decide +kernel, classes, fun w h => by cases h⟩

/-- Settles O59: every queue and the table are empty, the store holds the defaults, and unit and cycle are at rest. -/
theorem resetMeetsTheInvariants : Obligations.ResetMeetsTheInvariants := by
  refine ⟨⟨by decide +kernel, by decide +kernel, by decide +kernel, by decide +kernel⟩,
    ⟨Nat.zero_le _, List.nodup_nil, Nat.zero_le _⟩, State.reset_storeSound, State.reset_arbiterSound, ?_⟩
  refine State.knifeSafe_of_rest (by decide +kernel) (by decide +kernel) fun h => ?_
  exact absurd h (by decide +kernel)

end Sys2Proof.Machine
end

section
/-! Little-endian fields: what is written reads back (00_scope.md). -/
namespace Sys2Proof.Machine

@[simp] theorem leBytes_length (size v : Nat) : (leBytes size v).length = size := by
  induction size generalizing v with
  | zero => rfl
  | succ k ih => simp [leBytes, ih]

theorem leNat_leBytes (size v : Nat) : leNat (leBytes size v) = v % 256 ^ size := by
  induction size generalizing v with
  | zero => simp [leBytes, leNat, Nat.mod_one]
  | succ k ih =>
    rw [leBytes, leNat, ih, BitVec.toNat_ofNat, show 2 ^ 8 = 256 from rfl, Nat.pow_succ', Nat.mod_mul]

theorem leNat_leBytes_of_lt {size v : Nat} (h : v < 256 ^ size) : leNat (leBytes size v) = v := by
  rw [leNat_leBytes, Nat.mod_eq_of_lt h]

end Sys2Proof.Machine
end

section
/-! The receiver: what it makes of each byte, of a frame, and of the events that end one (R183 to R185). -/
namespace Sys2Proof.Machine

/-- Settles O4, state by state. -/
theorem receiverTakesEachByte : Obligations.ReceiverTakesEachByte := by
  rintro ⟨st, bad, header, body, check, gap⟩ ⟨b, e⟩
  have three : header.length = 2 → (header ++ [b])[2]? = some b := fun h => by simp [h]
  refine ⟨?_, ?_, ?_, ?_, ?_, ?_, ?_⟩
  · rintro rfl rfl rfl
    rfl
  · rintro rfl h
    have : (b = 0xC3#8 && !e) = false := by rcases h with h | h <;> simp_all
    simp [Receiver.take, this]
  · rintro rfl h
    have h : header.length + 1 < 3 := Nat.succ_lt_succ h
    simp [Receiver.take, Receiver.keep, h, Timer.start, gapMs]
  · rintro rfl h
    have h : header.length = 2 := h
    simp only [Receiver.take, Receiver.keep, Receiver.len, three h, List.length_append, h, Timer.start, gapMs]
    by_cases above : 240 < b.toNat
    · simp [above]
    · by_cases zero : b.toNat = 0 <;> simp [above, zero]
  · rintro rfl
    simp only [Receiver.take, Receiver.keep, Receiver.len, List.length_append, List.length_singleton, Timer.start, gapMs]
    by_cases more : body.length + 1 < (Option.map BitVec.toNat header[2]?).getD 0 <;> simp [more]
  · rintro rfl h
    have h : check.length = 0 := h
    simp [Receiver.take, Receiver.keep, h, Timer.start, gapMs]
  · rintro rfl h len
    have h : check.length = 1 := h
    match header, len with
    | [kind, tag, n], _ => simp [Receiver.take, Receiver.keep, Receiver.frame, h, Timer.start, gapMs]

/-- The receiver after the header of a frame of LEN `n`, with part of its body. -/
def Receiver.inBody (st : RxState) (kind tag n : Byte) (body check : List Byte) : Receiver :=
  ⟨st, false, [kind, tag, n], body, check, ⟨true, 0, 11⟩⟩

/-- Bytes without an error, each an event or none. -/
theorem Receiver.feed_cons (r : Receiver) (b : Byte) (bs : List Byte) :
    (r.feed ((b :: bs).map fun b => ⟨b, false⟩)).2 =
      (r.take ⟨b, false⟩).2.toList ++ ((r.take ⟨b, false⟩).1.feed (bs.map fun b => ⟨b, false⟩)).2 := by
  have shift : ∀ (bs : List RxByte) (r : Receiver) (events : List Instr),
      (bs.foldl (fun x b => ((x.1.take b).1, x.2 ++ (x.1.take b).2.toList)) (r, events)).2 = events ++ (r.feed bs).2 := by
    intro bs
    induction bs with
    | nil => simp [Receiver.feed]
    | cons b bs ih =>
      intro r events
      have here := ih (r.take b).1 (events ++ (r.take b).2.toList)
      have alone : (r.feed (b :: bs)).2 = (r.take b).2.toList ++ ((r.take b).1.feed bs).2 :=
        ih (r.take b).1 ([] ++ (r.take b).2.toList)
      rw [List.foldl_cons, here, alone, List.append_assoc]
  exact shift (bs.map fun b => ⟨b, false⟩) (r.take ⟨b, false⟩).1 ([] ++ (r.take ⟨b, false⟩).2.toList)

/-- The body's bytes are taken one after another, the last one leading to CHECK. -/
theorem Receiver.feed_body (kind tag n : Byte) (rest done tail : List Byte) (len : done.length + rest.length = n.toNat)
    (more : rest ≠ []) :
    ((Receiver.inBody .body kind tag n done []).feed ((rest ++ tail).map fun b => ⟨b, false⟩)).2 =
      ((Receiver.inBody .check kind tag n (done ++ rest) []).feed (tail.map fun b => ⟨b, false⟩)).2 := by
  induction rest generalizing done with
  | nil => exact absurd rfl more
  | cons b bs ih =>
    rw [List.cons_append, Receiver.feed_cons, ((receiverTakesEachByte _ _).2.2.2.2.1 rfl)]
    simp only [List.length_cons] at len
    cases bs with
    | nil =>
      have last : ¬ done.length + 1 < n.toNat := by simp only [List.length_nil] at len; omega
      simp [Receiver.inBody, Receiver.len, last]
    | cons c cs =>
      have before : done.length + 1 < n.toNat := by simp only [List.length_cons] at len; omega
      have step := ih (done ++ [b]) (by simp only [List.length_append, List.length_singleton]; omega) (by simp)
      simp only [List.append_assoc, List.singleton_append] at step
      simpa [Receiver.inBody, Receiver.len, before] using step

/-- The two check bytes end the frame. -/
theorem Receiver.feed_check (kind tag n : Byte) (body : List Byte) (c d : Byte) :
    ((Receiver.inBody .check kind tag n body []).feed ([c, d].map fun b => ⟨b, false⟩)).2 =
      [.frameReceived false kind tag body (BitVec.ofNat 16 (leNat [c, d]))] := rfl

/-- The header's bytes, from HUNT. -/
theorem Receiver.feed_header (kind tag : Byte) (n : Nat) (h : n ≤ 240) (tail : List Byte) :
    (Receiver.hunting.feed ((0xC3#8 :: kind :: tag :: BitVec.ofNat 8 n :: tail).map fun b => ⟨b, false⟩)).2 =
      ((Receiver.inBody (if n = 0 then .check else .body) kind tag (BitVec.ofNat 8 n) [] []).feed
        (tail.map fun b => ⟨b, false⟩)).2 := by
  have len : (BitVec.ofNat 8 n).toNat = n := by simp; omega
  have start (b : Byte) : Receiver.hunting.take ⟨0xC3#8, false⟩ = (⟨.header, false, [], [], [], ⟨true, 0, 11⟩⟩, none) := rfl
  rw [Receiver.feed_cons, Receiver.feed_cons, Receiver.feed_cons, Receiver.feed_cons, start 0,
    (receiverTakesEachByte _ _).2.2.1 rfl (by simp), (receiverTakesEachByte _ _).2.2.1 rfl (by simp),
    (receiverTakesEachByte _ _).2.2.2.1 rfl (by simp)]
  simp only [len, Nat.not_lt.2 h, if_false]
  rfl

/-- Settles O3: header, body and check are taken one after another, and the CRC reads back from its two bytes. -/
theorem framesReadBack : Obligations.FramesReadBack := by
  intro kind tag body h
  refine ⟨?_, by simp [goodFrame, h]⟩
  have crc (w : Word16) : BitVec.ofNat 16 (leNat (leBytes 2 w.toNat)) = w := by
    rw [leNat_leBytes_of_lt w.isLt]
    simp
  have ends : ((Receiver.inBody .check kind tag (BitVec.ofNat 8 body.length) body []).feed
      ((leBytes 2 (frameCrc kind tag body).toNat).map fun b => ⟨b, false⟩)).2 =
        [.frameReceived false kind tag body (frameCrc kind tag body)] := by
    conv_rhs => rw [← crc (frameCrc kind tag body)]
    exact Receiver.feed_check ..
  unfold frameBytes
  rw [List.cons_append, List.cons_append, List.cons_append, List.cons_append, Receiver.feed_header kind tag _ h]
  cases body with
  | nil => exact ends
  | cons b bs =>
    rw [if_neg (by simp), Receiver.feed_body _ _ _ (b :: bs) [] _ ?_ (by simp)]
    · exact ends
    · simp only [List.length_nil, List.length_cons, Nat.zero_add, BitVec.toNat_ofNat] at h ⊢
      omega

end Sys2Proof.Machine
end

section
/-! The Cell Link's own rules: a frame offered, the transmitter's choice, a notice offered, a request that cannot be served
(R185 to R187, R190 to R192). -/
namespace Sys2Proof.Machine

theorem goodFrame_iff (bad : Bool) (kind tag : Byte) (body : List Byte) (crc : Word16) :
    goodFrame bad kind tag body crc = true ↔ bad = false ∧ body.length ≤ 240 ∧ crc = frameCrc kind tag body := by
  simp [goodFrame, and_assoc]

/-- Settles O5: a good frame is queued, refused or discarded by the two counts. -/
theorem frameReceivedIsOffered : Obligations.FrameReceivedIsOffered := by
  refine ⟨fun bad kind tag body crc s => ?_, fun s => ⟨fun h => ?_, fun h => ?_⟩⟩
  · refine ⟨_, rfl, ?_, ?_⟩
    · unfold State.offerFrame
      (repeat' split) <;> simp [SameBut, State.hunt]
    · simp only [← goodFrame_iff]
      by_cases good : goodFrame bad kind tag body crc = true
      · by_cases joins : s.link.requests.length < 4
        · simp [good, joins, State.offerFrame, State.hunt, maxRequests]
        · by_cases place : s.link.replies.length < 3 <;> by_cases restart : s.link.restart = none <;>
            simp [good, joins, place, restart, State.offerFrame, State.hunt, maxRequests, serveReplies]
      · simp [good, State.hunt]
  · simp [exec, execGapTimeout, h, State.hunt]
  · simp [exec, execLenAbove240, h, State.hunt]

/-- What the transmitter takes when it is idle. -/
theorem Link.pick_of_idle (l : Link) (h : l.tx = .idle) :
    l.pick.replies = l.replies ∧
      l.pick =
        { l with
          notices := if l.replies = [] then l.notices.tail else l.notices
          tx := l.pick.tx
          txTimer := l.pick.txTimer } ∧
      l.pick.tx =
        if l.replies = [] then
          match l.notices with
          | q :: _ => .notice q
          | [] => .idle
        else .reply := by
  unfold Link.pick
  rw [h]
  cases hr : l.replies with
  | cons r rs => simp [hr]
  | nil =>
    cases hn : l.notices with
    | nil =>
      refine ⟨hr, ?_, by simp [h]⟩
      simp only [List.tail_nil, if_true]
      rw [← hr, ← hn]
    | cons q qs => simp [hr]

/-- Settles O6: what was sent leaves, and the idle transmitter chooses. -/
theorem transmitterChoosesNext : Obligations.TransmitterChoosesNext := by
  intro s quiet busy
  have idle : s.link.sent.tx = .idle ∧ s.link.sent.notices = s.link.notices ∧
      (∀ r n x y, { s.link.sent with replies := r, notices := n, tx := x, txTimer := y } =
        { s.link with replies := r, notices := n, tx := x, txTimer := y }) ∧
      s.link.sent.replies = if s.link.tx = .reply then s.link.replies.tail else s.link.replies := by
    unfold Link.sent
    cases h : s.link.tx <;> simp_all
  obtain ⟨tx, notices, rest, replies⟩ := idle
  obtain ⟨same, pick, chosen⟩ := s.link.sent.pick_of_idle tx
  refine ⟨(s.setLink s.link.sent).transmit, by simp [exec, execFrameSent, quiet], by simp [SameBut], ?_, ?_, ?_⟩
  · exact same.trans replies
  · have link : (s.setLink s.link.sent).transmit.link = s.link.sent.pick := rfl
    rw [link, same, ← rest, ← notices, ← pick]
  · have link : (s.setLink s.link.sent).transmit.link = s.link.sent.pick := rfl
    rw [link, chosen, same, notices] <;> rfl

/-- Settles O7, mode by mode. -/
theorem noticesJoinByMode : Obligations.NoticesJoinByMode := by
  intro l n _
  have joins : l.notices.length < 32 →
      l.enqueue n = { l with notices := l.notices ++ [⟨l.number, n⟩], number := l.number + 1 } := fun h => by
    simp [Link.enqueue, maxNotices, h]
  have full : l.notices.length = 32 → l.enqueue n = { l with overflow := true } := fun h => by
    simp [Link.enqueue, maxNotices, h]
  refine ⟨fun off => ?_, fun once armed => ?_, fun h mode => ?_, fun h every => ?_, fun h once armed => ?_⟩
  · simp [Link.offer, off]
  · simp [Link.offer, once, armed]
  · rcases mode with every | ⟨once, armed⟩
    · simp [Link.offer, every, full h]
    · simp [Link.offer, once, armed, full h, maxNotices, h]
  · simp [Link.offer, every, joins h]
  · simp [Link.offer, once, armed, joins h, maxNotices, h, Link.disarm]

/-- A served frame stands at the head of the request queue. -/
theorem knownKind_eq_false {k : Byte} (h : k.toNat = 0 ∨ 16 < k.toNat) : knownKind k = false := by
  unfold knownKind
  rcases h with h | h <;> simp [h]

/-- Settles O8: the length of a request is looked at before all else. -/
theorem unservableRequestsAreRefused : Obligations.UnservableRequestsAreRefused := by
  refine ⟨fun s f rest head serving unknown => ?_, fun s c code len f v key asked wrong => ⟨fun h => ?_, fun h => ?_⟩⟩
  · simp [exec, execRequestUnknown, head, serving, knownKind_eq_false unknown]
  · have refused := fun k => State.serve_wrong s code len k f asked wrong
    simp only [List.mem_cons, Prod.mk.injEq, List.not_mem_nil, or_false] at h
    rcases h with ⟨rfl, rfl, rfl⟩ | ⟨rfl, rfl, rfl⟩ | ⟨rfl, rfl, rfl⟩ | ⟨rfl, rfl, rfl⟩ | ⟨rfl, rfl, rfl⟩ <;>
      exact congrArg (fun u => Host.Outcome.next (State.finish u)) (refused _)
  · have refused := fun k => State.serve_wrong s code len k f asked wrong
    simp only [List.mem_cons, Prod.mk.injEq, List.not_mem_nil, or_false] at h
    rcases h with ⟨rfl, rfl, rfl⟩ | ⟨rfl, rfl, rfl⟩ | ⟨rfl, rfl, rfl⟩ | ⟨rfl, rfl, rfl⟩ | ⟨rfl, rfl, rfl⟩ | ⟨rfl, rfl, rfl⟩ |
        ⟨rfl, rfl, rfl⟩ | ⟨rfl, rfl, rfl⟩ | ⟨rfl, rfl, rfl⟩ | ⟨rfl, rfl, rfl⟩ | ⟨rfl, rfl, rfl⟩ <;>
      exact congrArg (fun u => Host.Outcome.next (State.transmit u)) (refused _)

end Sys2Proof.Machine
end

section
/-! WITHDRAW: the job leaves the table, and the stations that hold its material go to CLEARANCE (R30, R31, R77, R106, R138, R154). -/
namespace Sys2Proof.Machine

/-- The Infeed after a withdrawal: the units that hold the job's material clear. -/
def Infeed.cleared (i : Infeed) (n : Nat) (holder : Option Requester) : Infeed :=
  let turned : Infeed :=
    if i.turnerHolds n then
      { i with
        turner := .clearance
        pile := none
        motions := []
        pileLost := false
        unclamped := false
        turnerOrphan := if holder = some .turn then i.turnerMotion else none }
    else i
  if i.liftHolds n then
    { turned with
      lift := .clearance
      held := none
      clearReturn := false
      returnJob := none
      liftOrphan := if holder = some .lift then i.liftMotion else none }
  else turned

/-- The requests of the Infeed units that clear are withdrawn. -/
def Arbiter.infeedCleared (a : Arbiter) (turn lift : Bool) : Arbiter :=
  { a with turn := if turn then none else a.turn, lift := if lift then none else a.lift }

theorem State.clearInfeed_eq (s : State) (n : Nat) :
    s.clearInfeed n =
      ((s.setInfeed (s.infeed.cleared n s.arbiter.holder)).setArbiter
        (s.arbiter.infeedCleared (s.infeed.turnerHolds n) (s.infeed.liftHolds n))).setLink
        ((if s.infeed.turnerHolds n || s.infeed.liftHolds n then [Station.infeed] else []).foldl
          (fun l x => l.offer (.wait (.clearance x))) s.link) := by
  unfold State.clearInfeed Infeed.cleared Arbiter.infeedCleared
  dsimp only
  cases s.infeed.turnerHolds n <;> cases s.infeed.liftHolds n <;> rfl

/-- The Jogger without the job's material. -/
def Jogger.cleared (j : Jogger) : Jogger :=
  { j with
    state := .clearance
    lift := none
    receivingFor := none
    intensity := 0
    rejogUsed := false
    jogTimer := Timer.stopped
    pass := 0
    scan := none
    phase := .none
    transferTimer := { j.transferTimer with running := false }
    pusher := .hold
    paused := false
    clearTimer := Timer.stopped }

/-- The Runner without the job's lift: only its hold flag stays. -/
def Runner.cleared (r : Runner) : Runner :=
  ⟨.clearance, none, none, 0, none, r.hold, false, none, none, none, none, [], ⟨0, 0, 0, 0, 0⟩, none, false, false, false⟩

theorem State.clearJogger_eq (s : State) :
    s.clearJogger = (s.setJogger s.jogger.cleared).setLink (s.link.offer (.wait (.clearance .jogger))) := rfl

theorem State.clearRunner_eq (s : State) :
    s.clearRunner = (s.setRunner s.runner.cleared).setLink (s.link.offer (.wait (.clearance .runner))) := rfl

/-- The cycle's part of a withdrawal: a cut that waits for the grant is withdrawn. -/
theorem State.withdrawCut_eq (s : State) :
    s.withdrawCut =
      if s.cycle.state = .waitGrant && s.cycle.purpose = some .cut then
        (s.setCycle s.cycle.withdrawn).setArbiter { s.arbiter with cut := none }
      else s := by
  rw [← Cycle.withdrawn_eq]
  rfl

/-- What a withdrawal makes of the stations, station by station. -/
structure Clears (s u : State) (n : Nat) (cut : Bool) : Prop where
  runner : u.runner = if s.runnerHolds n then s.runner.cleared else s.runner
  jogger : u.jogger = if s.jogger.holds n then s.jogger.cleared else s.jogger
  infeed : u.infeed = s.infeed.cleared n s.arbiter.holder
  arbiter : u.arbiter =
    { s.arbiter.infeedCleared (s.infeed.turnerHolds n) (s.infeed.liftHolds n) with
      cut := if cut then none else s.arbiter.cut }
  cycle : u.cycle = if cut then s.cycle.withdrawn else s.cycle
  link : u.link = (s.clearing n).foldl (fun l x => l.offer (.wait (.clearance x))) s.link
  rest : SameBut [.link, .runner, .cycle, .infeed, .jogger, .arbiter] s u

theorem State.clearStations_clears (s : State) (n : Nat) :
    Clears s (s.clearStations n) n (s.runnerHolds n && s.cycle.state = .waitGrant && s.cycle.purpose = some .cut) := by
  unfold State.clearStations
  dsimp only
  simp only [State.clearInfeed_eq, State.clearJogger_eq, State.clearRunner_eq, State.withdrawCut_eq]
  have clearing : s.clearing n = (if s.infeed.turnerHolds n || s.infeed.liftHolds n then [.infeed] else []) ++
      (if s.jogger.holds n then [.jogger] else []) ++ (if s.runnerHolds n then [.runner] else []) := rfl
  generalize (if s.infeed.turnerHolds n || s.infeed.liftHolds n then [Station.infeed] else []) = first at clearing ⊢
  cases jogger : s.jogger.holds n <;> cases runner : s.runnerHolds n
  case false.false | true.false => constructor <;> simp [clearing, jogger, runner, SameBut, Arbiter.infeedCleared]
  all_goals
    by_cases waits : (s.cycle.state = .waitGrant && s.cycle.purpose = some .cut) = true
    · have waits2 := waits
      simp only [Bool.and_eq_true, decide_eq_true_eq] at waits2
      constructor <;> simp [clearing, jogger, runner, waits2, SameBut, Arbiter.infeedCleared]
    · have waits2 := waits
      simp only [Bool.and_eq_true, decide_eq_true_eq] at waits2
      constructor <;> simp [clearing, jogger, runner, waits2, SameBut, Arbiter.infeedCleared]

/-- The job leaves table and bank, with its JOB notice; then what its state has begun is undone, and OK is answered. -/
def State.jobGone (s : State) (e : JobEntry) : State := s.dequeue.endJob e .cancelled .withdrawn

theorem State.jobGone_eq (s : State) (e : JobEntry) :
    (s.jobGone e).jobs = (s.jobs.filter fun x => x.record.number ≠ e.record.number) ∧
      ((s.jobGone e).bankA = if e.bank = some .a then Bank.cleared else s.bankA) ∧
      ((s.jobGone e).bankB = if e.bank = some .b then Bank.cleared else s.bankB) ∧
      (s.jobGone e).link = s.dequeue.link.offer (.job e.record.number .cancelled .withdrawn) ∧
      SameBut [.link, .jobs, .bankA, .bankB] s (s.jobGone e) := by
  unfold State.jobGone State.endJob State.emptyBank State.dropEntry State.setBank State.notify
  cases e.bank with
  | none => simp [SameBut, State.dequeue]
  | some b => cases b <;> simp [SameBut, State.dequeue]

theorem State.jobGone_clearing (s : State) (e : JobEntry) (n : Nat) :
    (s.jobGone e).clearing n = s.clearing n ∧ (s.jobGone e).runnerHolds n = s.runnerHolds n := by
  obtain ⟨-, -, -, -, same⟩ := s.jobGone_eq e
  have holds : (s.jobGone e).runnerHolds n = s.runnerHolds n := by
    unfold State.runnerHolds
    rw [same.runner, same.jogger] <;> rfl
  exact ⟨by rw [State.clearing, State.clearing, holds, same.infeed, same.jogger], holds⟩

/-- A served WITHDRAW of a job in the table. -/
theorem exec_withdraw_of_entry {s : State} {f : Frame} {e : JobEntry} (asked : s.request 0x02#8 = some f)
    (len : f.body.length = 2) (entry : s.entry (fieldAt f.body 0 2) = some e) :
    exec .withdraw s = .next (((s.jobGone e).undoJob e).answer f .ok 0 []).finish := by
  have served : s.serve 0x02#8 2 withdrawJob = withdrawJob f s.dequeue := State.serve_right s _ _ _ f asked len
  have entry : s.dequeue.entry (fieldAt f.body 0 2) = some e := entry
  simp only [exec, execWithdraw, served, withdrawJob, entry]
  rfl

/-- The notices of the stations leave the requests to be taken and the replies to be given. -/
theorem Link.notices_replied (l : Link) (f : Frame) (xs : List Station) (n : Notice) :
    let told := xs.foldl (fun l x => l.offer (.wait (.clearance x))) (({ l with requests := l.requests.tail } : Link).offer n)
    { told with replies := told.replies ++ [⟨f.kind, f.tag, .ok, 0, []⟩] } =
      (xs.foldl (fun l x => l.offer (.wait (.clearance x))) (l.offer n)).replied f .ok 0 [] := by
  have shift : ∀ (xs : List Station) (l : Link) (r : List Frame),
      xs.foldl (fun l x => l.offer (.wait (.clearance x))) { l with requests := r } =
          { xs.foldl (fun l x => l.offer (.wait (.clearance x))) l with requests := r } ∧
        (xs.foldl (fun l x => l.offer (.wait (.clearance x))) l).requests = l.requests := by
    intro xs
    induction xs with
    | nil => exact fun l r => ⟨rfl, rfl⟩
    | cons x xs ih =>
      intro l r
      simp only [List.foldl_cons, Link.offer_requests]
      exact ⟨(ih _ r).1, (ih _ r).2.trans (by simp)⟩
  intro told
  have e : told = { xs.foldl (fun l x => l.offer (.wait (.clearance x))) (l.offer n) with requests := l.requests.tail } := by
    unfold told
    rw [Link.offer_requests]
    exact (shift xs (l.offer n) _).1
  have requests := (shift xs (l.offer n) []).2
  rw [e, Link.replied, requests]
  simp

/-- Settles O12: the stations are taken one after another, Infeed, Jogger, Runner. -/
theorem withdrawClearsTheStations : Obligations.WithdrawClearsTheStations := by
  intro s f e asked len entry running n cut turned
  obtain ⟨-, -, -, link, same⟩ := s.jobGone_eq e
  have clears := State.clearStations_clears (s.jobGone e) n
  obtain ⟨clearing, holds⟩ := s.jobGone_clearing e n
  have undone : (s.jobGone e).undoJob e = (s.jobGone e).clearStations n := by simp [State.undoJob, running, n]
  rw [same.cycle, holds] at clears
  refine ⟨((s.jobGone e).clearStations n).answer f .ok 0 [], undone ▸ exec_withdraw_of_entry asked len entry, ?_, ?_, ?_, ?_, ?_,
    ?_, ?_, ?_⟩
  · have h := clears.runner
    rw [holds, same.runner] at h
    exact h
  · have h := clears.jogger
    rw [same.jogger] at h
    exact h
  · have h := clears.infeed
    rw [same.infeed, same.arbiter] at h
    exact h
  · have h := clears.arbiter
    rw [same.infeed, same.arbiter] at h
    exact h
  · have h := clears.cycle
    rw [same.cycle] at h
    exact h
  · intro withdrawn ready
    have h : ((s.jobGone e).clearStations n).cycle = s.cycle.withdrawn := by
      rw [clears.cycle, same.cycle]
      exact if_pos withdrawn
    simp only [State.answer_frame, h]
    simp +contextual [Cycle.withdrawn, Cycle.spentTo, ready]
  · have h := clears.link
    rw [clearing, link] at h
    simp only [State.answer_link, h]
    exact Link.notices_replied s.link f _ _
  · have answered : SameBut [.link] ((s.jobGone e).clearStations n) (((s.jobGone e).clearStations n).answer f .ok 0 []) := by
      simp [SameBut]
    exact (same.mono.trans clears.rest.mono).trans answered.mono

/-- What is undone for a job that is not RUNNING. -/
theorem State.undoJob_idle (s : State) (e : JobEntry) (idle : e.state ≠ .running) :
    s.undoJob e =
      (s.setPlanner (if e.state = .planning then none else s.planner)).setInfeed
        (if e.state = .called then { s.infeed with turner := .empty, called := none } else s.infeed) := by
  unfold State.undoJob
  cases h : e.state
  case running => exact absurd h idle
  all_goals rfl

/-- Settles O11: the table and the bank first, then by the job's state. -/
theorem withdrawRemovesTheJob : Obligations.WithdrawRemovesTheJob := by
  intro s f asked len
  refine ⟨fun none => ?_, fun e entry => ?_⟩
  · have served : s.serve 0x02#8 2 withdrawJob = withdrawJob f s.dequeue := State.serve_right s _ _ _ f asked len
    have none : s.dequeue.entry (fieldAt f.body 0 2) = .none := none
    simp only [exec, execWithdraw, served, withdrawJob, none, State.dequeue_answer]
  · obtain ⟨jobs, bankA, bankB, link, same⟩ := s.jobGone_eq e
    by_cases running : e.state = .running
    · have clears := State.clearStations_clears (s.jobGone e) e.record.number
      have undone : (s.jobGone e).undoJob e = (s.jobGone e).clearStations e.record.number := by
        simp [State.undoJob, running]
      have answered : SameBut [.link] ((s.jobGone e).clearStations e.record.number)
          (((s.jobGone e).clearStations e.record.number).answer f .ok 0 []) := by simp [SameBut]
      have rest := clears.rest
      refine ⟨_, undone ▸ exec_withdraw_of_entry asked len entry, ?_, ?_, ?_, ?_, fun idle => absurd running idle, fun _ => ?_⟩
      · rw [answered.jobs, rest.jobs, jobs]
      · rw [answered.bankA, rest.bankA, bankA]
      · rw [answered.bankB, rest.bankB, bankB]
      · exact (same.mono.trans rest.mono).trans answered.mono
      · refine ⟨?_, ?_, fun waits => ?_⟩
        · have h := clears.link
          rw [(s.jobGone_clearing e _).1, link] at h
          simp only [State.answer_link, h]
          exact Link.notices_replied s.link f _ _
        · rw [answered.planner, rest.planner, same.planner]
        · have h := clears.cycle
          rw [same.cycle] at h
          rw [answered.cycle, h, if_neg (by simp [waits])]
    · have e' := (s.jobGone e).undoJob_idle e running
      have rest : SameBut [.link, .planner, .infeed] (s.jobGone e) (((s.jobGone e).undoJob e).answer f .ok 0 []) := by
        simp [SameBut, e']
      refine ⟨_, exec_withdraw_of_entry asked len entry, ?_, ?_, ?_, same.mono.trans rest.mono, fun _ =>
        ⟨?_, same.mono.trans rest.mono, ?_, ?_⟩, fun r => absurd r running⟩
      · rw [rest.jobs, jobs]
      · rw [rest.bankA, bankA]
      · rw [rest.bankB, bankB]
      · have told : ((s.jobGone e).undoJob e).link = s.dequeue.link.offer (.job e.record.number .cancelled .withdrawn) := by
          rw [e', ← link]
          rfl
        rw [State.answer_link, told]
        exact Link.notices_replied s.link f [] _
      · simp [e', same.planner]
      · simp [e', same.infeed]

end Sys2Proof.Machine
end

section
/-! The layouts of section 12.6: the SUBMIT body, the data of the information replies. -/
namespace Sys2Proof.Machine

/-- A field whose bytes are those of a number reads back as the number. -/
theorem fieldAt_of_bytes {body : List Byte} {off size v : Nat} (bytes : (body.drop off).take size = leBytes size v)
    (lt : v < 256 ^ size) : fieldAt body off size = v := by
  rw [fieldAt, bytes, leNat_leBytes_of_lt lt]

/-- In a row of segments each one stands behind those before it. -/
theorem flatten_segment {α : Type} (segs : List (List α)) (k : Nat) {off size : Nat} {seg : List α} (here : segs[k]? = some seg)
    (before : ((segs.take k).map List.length).sum = off) (long : seg.length = size) :
    (segs.flatten.drop off).take size = seg := by
  obtain ⟨hk, rfl⟩ := List.getElem?_eq_some_iff.1 here
  have cut : segs.flatten = (segs.take k).flatten ++ (segs[k] ++ (segs.drop (k + 1)).flatten) := by
    conv_lhs => rw [← List.take_append_drop k segs, List.drop_eq_getElem_cons hk]
    rw [List.flatten_append, List.flatten_cons]
  rw [cut, List.drop_left' (by simpa [List.length_flatten] using before), List.take_left' long]

/-- The code that field `no` of R18 has in a job record. -/
def JobRecord.code (r : JobRecord) (no : Nat) : Nat :=
  match no with
  | 1 => r.number | 2 => r.priority | 3 => r.paperClass | 4 => r.rear.code | 5 => r.face.code | 6 => r.sheetL | 7 => r.sheetW
  | 8 => r.nr | 9 => r.pl | 10 => r.gl | 11 => r.nc | 12 => r.pw | 13 => r.gw | 14 => r.trimGrip | 15 => r.trimLay
  | 16 => r.liftHeight | 17 => r.fixedCount.getD 0 | _ => if r.firstOff then 1 else 0

/-- Every code of a record in range lies in the range of its field. -/
theorem JobRecord.code_mem_range {r : JobRecord} {hmax : Nat} (h : r.inRange hmax = true) {no : Nat} (hno : no ∈ List.range' 1 18) :
    (jobFieldRange hmax no).1 ≤ r.code no ∧ r.code no ≤ (jobFieldRange hmax no).2 := by
  have rear : r.rear.code ≤ 3 := by cases r.rear <;> decide
  have face : r.face.code ≤ 1 := by cases r.face <;> decide
  have first : (if r.firstOff then 1 else 0) ≤ 1 := by split <;> decide
  have count : r.fixedCount.getD 0 ≤ 64 := by
    cases e : r.fixedCount with
    | none => simp
    | some n =>
      simp only [JobRecord.inRange, e, Bool.and_eq_true, decide_eq_true_eq] at h
      exact h.2.2
  simp only [JobRecord.inRange, Bool.and_eq_true, decide_eq_true_eq] at h
  have hno : 1 ≤ no ∧ no < 19 := by simpa using hno
  obtain ⟨low, high⟩ := hno
  interval_cases no <;> simp only [jobFieldRange, JobRecord.code] <;> omega

/-- The SUBMIT body is its eighteen fields in a row. -/
theorem bodyOfJob_eq (r : JobRecord) :
    bodyOfJob r = ((List.range' 1 18).map fun no => leBytes (jobFieldSpan no).2 (r.code no)).flatten := by
  simp [bodyOfJob, List.range', jobFieldSpan, JobRecord.code]

/-- Each field stands in its place. -/
theorem jobField_bodyOfJob {r : JobRecord} {hmax : Nat} (small : hmax ≤ 2000) (h : r.inRange hmax = true) {no : Nat}
    (hno : no ∈ List.range' 1 18) : jobField (bodyOfJob r) no = r.code no := by
  have fits : ∀ no ∈ List.range' 1 18, (jobFieldRange 2000 no).2 < 256 ^ (jobFieldSpan no).2 := by decide
  have offsets : ∀ no ∈ List.range' 1 18,
      (((List.range' 1 18).take (no - 1)).map fun m => (jobFieldSpan m).2).sum = (jobFieldSpan no).1 := by decide
  have places : ∀ no ∈ List.range' 1 18, (List.range' 1 18)[no - 1]? = some no := by decide
  have widens : (jobFieldRange hmax no).2 ≤ (jobFieldRange 2000 no).2 := by
    unfold jobFieldRange
    split
    case h_16 => exact small
    all_goals exact Nat.le_refl _
  refine fieldAt_of_bytes ?_ (((JobRecord.code_mem_range h hno).2.trans widens).trans_lt (fits no hno))
  rw [bodyOfJob_eq]
  refine flatten_segment _ (no - 1) (by simp [places no hno]) ?_ (leBytes_length ..)
  rw [← offsets no hno, ← List.map_take, List.map_map]
  simp [Function.comp_def]

/-- Settles O10: each field's bytes stand in its place and read back as its code. -/
theorem jobRecordRoundTrip : Obligations.JobRecordRoundTrip := by
  intro r hmax small h
  have field : ∀ no ∈ List.range' 1 18, jobField (bodyOfJob r) no = r.code no := fun no => jobField_bodyOfJob small h
  refine ⟨by simp [bodyOfJob], ?_, ?_⟩
  · have rear : edgeOf r.rear.code = r.rear := by cases r.rear <;> rfl
    have face : faceOf r.face.code = r.face := by cases r.face <;> rfl
    have count : (if r.fixedCount.getD 0 = 0 then none else some (r.fixedCount.getD 0)) = r.fixedCount := by
      cases e : r.fixedCount with
      | none => rfl
      | some n =>
        simp only [JobRecord.inRange, e, Bool.and_eq_true, decide_eq_true_eq] at h
        have := h.2.1
        simp only [Option.getD_some, ite_eq_right_iff]
        omega
    have first : decide ((if r.firstOff then 1 else 0) = 1) = r.firstOff := by cases r.firstOff <;> rfl
    unfold jobOfBody
    rw [field 1 (by decide), field 2 (by decide), field 3 (by decide), field 4 (by decide), field 5 (by decide),
      field 6 (by decide), field 7 (by decide), field 8 (by decide), field 9 (by decide), field 10 (by decide),
      field 11 (by decide), field 12 (by decide), field 13 (by decide), field 14 (by decide), field 15 (by decide),
      field 16 (by decide), field 17 (by decide), field 18 (by decide)]
    simp only [JobRecord.code, rear, face, count, first]
  · unfold firstBadField
    rw [List.find?_eq_none]
    intro no hno
    have range := JobRecord.code_mem_range h hno
    simp [jobFieldOk, field no hno, range]

end Sys2Proof.Machine
end

section
/-! The information replies: what they report, byte by byte (R33, R178, R187, section 12.6). -/
namespace Sys2Proof.Machine

theorem leBytes_two (n : Nat) : leBytes 2 n = [byteOf n, byteOf (n / 256)] := rfl

theorem leBytes_four (n : Nat) :
    leBytes 4 n = [byteOf n, byteOf (n / 256), byteOf (n / 65536), byteOf (n / 65536 / 256)] := by
  simp only [leBytes, byteOf, Nat.div_div_eq_div_mul]

theorem leInt_eq (v : Int) : leInt v = leBytes 4 (v % 4294967296).toNat := by
  rw [leInt, BitVec.toNat_ofInt]
  rfl

/-- Settles O13: each information request is answered from the state as it stands. -/
theorem infoRepliesReport : Obligations.InfoRepliesReport := by
  refine ⟨fun s f => ⟨fun asked len => ?_, fun asked len => ?_, fun asked len => ?_, fun asked len => ?_⟩, fun n c => rfl,
    fun n v => ?_, fun c => ⟨rfl, fun n far => ?_⟩⟩
  · have served : s.serve 0x03#8 2 reportJob = reportJob f s.dequeue := State.serve_right s _ _ _ f asked len
    have entry : s.dequeue.entry (fieldAt f.body 0 2) = s.entry (fieldAt f.body 0 2) := rfl
    simp only [exec, execJobInfo, served, reportJob, entry]
    cases s.entry (fieldAt f.body 0 2) <;> rfl
  · have served : s.serve 0x04#8 0 reportLine = reportLine f s.dequeue := State.serve_right s _ _ _ f asked len
    simp only [exec, execLineInfo, served]
    rfl
  · have served : s.serve 0x0B#8 1 classRead = classRead f s.dequeue := State.serve_right s _ _ _ f asked len
    simp only [exec, execClassGet, served, classRead]
    split <;> rfl
  · have served : s.serve 0x0D#8 1 constRead = constRead f s.dequeue := State.serve_right s _ _ _ f asked len
    have store : s.dequeue.store = s.store := rfl
    simp only [exec, execConstGet, served, constRead, store]
    cases s.store.consts.get (fieldAt f.body 0 1) <;> rfl
  · simp only [constBytes, leInt_eq, leBytes_four, Nat.div_div_eq_div_mul]
  · unfold Consts.get
    split
    case h_26 => rfl
    all_goals omega

end Sys2Proof.Machine
end

section
/-! The line status record of LINE_INFO, field by field (section 12.6). -/
namespace Sys2Proof.Machine

/-! ### The pieces -/

@[simp] theorem optBytes_length (size : Nat) (v : Option Nat) : (optBytes size v).length = size := by
  cases v <;> simp [optBytes]

@[simp] theorem Bank.bytes_length (b : Bank) : b.bytes.length = 3 := by simp [Bank.bytes]

@[simp] theorem liftRecBytes_length (l : Option LiftRec) : (liftRecBytes l).length = 5 := by cases l <;> simp [liftRecBytes]

@[simp] theorem workBytes_length (w : Option StackRec) : (workBytes w).length = 18 := by simp [workBytes]

@[simp] theorem Tally.bytes_length (t : Tally) : t.bytes.length = 10 := by simp [Tally.bytes]

@[simp] theorem moveBytes_length (m : Option MoveResult) : (moveBytes m).length = 9 := by cases m <;> simp [moveBytes, leInt]

@[simp] theorem pileBytes_length (p : Option PileRec) : (pileBytes p).length = 13 := by cases p <;> simp [pileBytes]

@[simp] theorem scanBytes_length (c : Option EdgeCounts) : (scanBytes c).length = 10 := by cases c <;> simp [scanBytes]

@[simp] theorem waitingBytes_length (w : Option Nat) : (waitingBytes w).length = 3 := by
  cases w with
  | none => rfl
  | some ms =>
    unfold waitingBytes
    dsimp only
    split <;> simp

/-- The twenty-six groups of fields of the line status record, in order. -/
def State.statusFields (s : State) : List (List Byte) :=
  [[byteOf s.store.cause.code, flagByte s.link.overflow],
    leBytes 2 s.faults.bits,
    [flagByte s.stop, flagByte s.guillotineHalt, flagByte s.faults.jogger, flagByte s.infeedHalt],
    [byteOf s.jobs.length, byteOf s.admission] ++ s.bankA.bytes ++ s.bankB.bytes,
    [byteOf s.runner.state.code] ++ optBytes 1 (s.runner.phase.map StepPhase.code) ++ [byteOf s.runner.stepIndex],
    leBytes 2 ((s.runner.lift.map CurrentLift.job).getD 0) ++ [byteOf ((s.runner.lift.map CurrentLift.lift).getD 0)] ++
      [flagByte s.runner.hold, flagByte s.runner.firstOff],
    s.runner.tally.bytes,
    workBytes s.runner.working,
    asideBytes s.runner.aside,
    [byteOf s.gauge.state.code] ++ optBytes 1 (s.gauge.phase.map MovePhase.code) ++
      [byteOf (if s.gauge.valid then 0 else 1), byteOf s.gauge.corrective],
    leInt s.gauge.position ++ leInt s.gauge.targetNow,
    moveBytes s.gauge.last,
    [byteOf s.cycle.state.code] ++ optBytes 1 (s.cycle.purpose.map Purpose.code) ++
      [flagByte s.cycle.entryPassed, flagByte s.cycle.counted],
    leBytes 2 s.cycle.lastHeight ++ [byteOf s.cycle.monitor.code],
    [byteOf s.infeed.turner.code] ++ leBytes 2 (s.infeed.called.getD 0) ++
      [flagByte s.infeed.rejected, flagByte s.infeed.pileLost] ++
      optBytes 1 (s.infeed.turnerMotion.map InfeedMotion.code) ++ optBytes 1 (s.infeed.liftMotion.map InfeedMotion.code),
    pileBytes s.infeed.pile,
    [byteOf s.infeed.lift.code] ++ liftRecBytes s.infeed.held,
    [byteOf s.jogger.state.code] ++ liftRecBytes s.jogger.lift ++
      [byteOf s.jogger.intensity, flagByte s.jogger.rejogUsed, byteOf s.jogger.pass],
    scanBytes s.jogger.lastScan,
    [flagByte s.joggerHoldReleased, flagByte s.tableHoldReleased, byteOf s.jogger.phase.code,
      byteOf (s.jogger.transferTimer.elapsed / 100)],
    [byteOf s.arbiter.unit.code] ++ optBytes 1 (s.arbiter.holder.map Requester.code),
    waitingBytes s.arbiter.cut,
    waitingBytes s.arbiter.lift,
    waitingBytes s.arbiter.turn,
    leBytes 4 (switchBits fun x => (s.inputs.get x).raw) ++ leBytes 4 (switchBits fun x => (s.inputs.get x).filtered),
    leBytes 2 s.channels.pileTop ++ leBytes 2 s.channels.clampHeight ++ leBytes 2 s.channels.knifeHeight ++
      leBytes 4 s.channels.widthProbe ++ [flagByte s.store.write.isSome]]

/-- Their lengths. -/
def statusLengths : List Nat := [2, 2, 4, 8, 3, 5, 10, 18, 2, 4, 8, 9, 4, 3, 7, 13, 6, 9, 10, 4, 2, 3, 3, 3, 8, 11]

theorem State.lineStatus_eq (s : State) : s.lineStatus = s.statusFields.flatten := by
  simp only [State.lineStatus, State.infoTable, State.infoRunner, State.infoGauge, State.infoCycle, State.infoInfeed,
    State.infoJogger, State.infoField, State.statusFields, List.flatten_cons, List.flatten_nil, List.append_assoc,
    List.append_nil, List.cons_append, List.nil_append]

theorem State.statusFields_length (s : State) : s.statusFields.map List.length = statusLengths := by
  simp [State.statusFields, statusLengths, leInt, asideBytes]

/-- Each group stands behind those before it. -/
theorem State.lineStatus_at (s : State) (k : Nat) {off size : Nat} {seg : List Byte} (here : s.statusFields[k]? = some seg)
    (place : (statusLengths.take k).sum = off ∧ statusLengths[k]? = some size) :
    (s.lineStatus.drop off).take size = seg := by
  rw [State.lineStatus_eq]
  refine flatten_segment _ k here ?_ ?_
  · rw [List.map_take, State.statusFields_length, place.1]
  · have long : (s.statusFields.map List.length)[k]? = some seg.length := by simp [here]
    rw [State.statusFields_length, place.2] at long
    exact (Option.some.inj long).symm

/-! ### The fields -/

/-- The bits of a list of flags, from the lowest bit. -/
def flagBits (fs : List Bool) : Nat := fs.foldr (fun b n => b.toNat + 2 * n) 0

theorem FaultSet.bits_eq (f : FaultSet) :
    f.bits =
      flagBits [f.eStop, f.hydPressure, f.gaugePosition, f.encoderStall, f.referenceFail, f.noStack, f.plateRemoved, f.jogFailed,
        f.transferTimeout, f.pileBad, f.motionTimeout] := by
  simp only [FaultSet.bits, flagBits, List.foldr_cons, List.foldr_nil]
  omega

theorem switchBits_eq (level : Switch → Bool) : switchBits level = allSwitches.foldr (fun x n => (level x).toNat + 2 * n) 0 := by
  have shift : ∀ (xs : List Switch) (k : Nat),
      ((xs.zipIdx k).map fun x => (level x.1).toNat * 2 ^ x.2).sum =
        2 ^ k * xs.foldr (fun x n => (level x).toNat + 2 * n) 0 := by
    intro xs
    induction xs with
    | nil => simp
    | cons x xs ih =>
      intro k
      simp only [List.zipIdx_cons, List.map_cons, List.sum_cons, ih, List.foldr_cons, Nat.pow_succ]
      ring
  rw [switchBits, shift]
  simp

/-- An optional code is its one byte, FFh where it is absent. -/
theorem optBytes_one (v : Option Nat) : optBytes 1 v = match v with | some n => [byteOf n] | none => [0xFF] := by
  cases v <;> rfl

theorem liftRecBytes_eq (l : Option LiftRec) :
    liftRecBytes l = match l with | some l => leBytes 2 l.job ++ [byteOf l.lift] ++ leBytes 2 l.height | none => [0, 0, 0, 0, 0] := by
  cases l <;> rfl

theorem workBytes_eq (w : Option StackRec) :
    workBytes w =
      match w with
      | some w =>
        [1] ++ leBytes 2 w.job ++ [byteOf w.lift, byteOf w.strip] ++ leBytes 4 w.along ++ leBytes 4 w.across ++ leBytes 2 w.height ++
          [byteOf w.orient.rear.code, byteOf w.orient.face.code] ++ [flagByte w.partialCut]
      | none => [0, 0, 0] ++ List.replicate 15 0xFF := by
  cases w with
  | none => rfl
  | some w =>
    cases mark : w.partialCut <;> simp [workBytes, optBytes, leBytes, byteOf, flagByte, mark]

/-- A waiting request; a time within two bytes in tenths of a second. -/
theorem waitingBytes_some {ms : Nat} (h : ms < 6553600) : waitingBytes (some ms) = [1] ++ leBytes 2 (ms / 100) := by
  have fits : ms / 100 ≤ 65535 := by omega
  simp [waitingBytes, fits, flagByte]

/-! ### Codes are positions in the list of their rule -/

theorem JobState.code_eq (x : JobState) :
    x.code = [JobState.queued, .planning, .planned, .called, .running, .done, .cancelled, .refused].idxOf x := by
  cases x <;> rfl

theorem BankState.code_eq (x : BankState) : x.code = [BankState.empty, .planning, .ready, .inUse].idxOf x := by cases x <;> rfl

theorem RunnerState.code_eq (x : RunnerState) :
    x.code = [RunnerState.idle, .loading, .running, .held, .liftEnd, .clearance].idxOf x := by cases x <;> rfl

theorem StepPhase.code_eq (x : StepPhase) :
    x.code = [StepPhase.prepare, .positioning, .awaitStart, .cycle, .takeaway, .parking, .awaitConfirm].idxOf x := by
  cases x <;> rfl

theorem Edge.code_eq (x : Edge) : x.code = [Edge.grip, .tail, .lay, .off].idxOf x := by cases x <;> rfl

theorem Face.code_eq (x : Face) : x.code = [Face.up, .down].idxOf x := by cases x <;> rfl

theorem AxisState.code_eq (x : AxisState) :
    x.code = [AxisState.unreferenced, .referencing, .idle, .moving, .settling, .paused, .faulted].idxOf x := by cases x <;> rfl

theorem MovePhase.code_eq (x : MovePhase) : x.code = [MovePhase.search, .overshoot, .approach].idxOf x := by cases x <;> rfl

theorem CycleState.code_eq (x : CycleState) :
    x.code =
      [CycleState.ready, .waitGrant, .clamping, .dwell, .strokeDown, .strokeUp, .unclamp, .abortReturn, .stopped,
        .returnNeeded].idxOf x := by cases x <;> rfl

theorem Purpose.code_eq (x : Purpose) : x.code = [Purpose.cut, .ret].idxOf x := by cases x <;> rfl

theorem Monitor.code_eq (x : Monitor) : x.code = [Monitor.idle, .one, .engaged, .spent].idxOf x := by cases x <;> rfl

theorem TurnerState.code_eq (x : TurnerState) :
    x.code = [TurnerState.empty, .calling, .turning, .ready, .exhausted, .clearance].idxOf x := by cases x <;> rfl

theorem InfeedMotion.code_eq (x : InfeedMotion) :
    x.code = [InfeedMotion.clampPile, .invert, .rotateCw, .rotateCcw, .unclamp, .pick, .deposit, .ret].idxOf x := by
  cases x <;> rfl

theorem LiftState.code_eq (x : LiftState) :
    x.code = [LiftState.idle, .picking, .holding, .depositing, .returning, .clearance].idxOf x := by cases x <;> rfl

theorem JoggerState.code_eq (x : JoggerState) :
    x.code = [JoggerState.empty, .receiving, .jogging, .aligned, .handing, .failed, .clearance].idxOf x := by cases x <;> rfl

theorem TransferPhase.code_eq (x : TransferPhase) : x.code = [TransferPhase.none, .push, .timedOut, .ret].idxOf x := by
  cases x <;> rfl

theorem UnitState.code_eq (x : UnitState) : x.code = [UnitState.unavailable, .free, .held].idxOf x := by cases x <;> rfl

theorem Requester.code_eq (x : Requester) : x.code = [Requester.cut, .lift, .turn].idxOf x := by cases x <;> rfl

theorem BankId.byte_eq (bank : Option BankId) :
    [bankByte bank] = match bank.map fun x => [BankId.a, .b].idxOf x with | some n => [byteOf n] | none => [0xFF] := by
  cases bank with
  | none => rfl
  | some x => cases x <;> rfl

/-- Settles O14: group by group. -/
theorem lineStatusIsLaidOut : Obligations.LineStatusIsLaidOut := by
  unfold Obligations.LineStatusIsLaidOut
  intro le2 le4 signed yes maybe lift waits bankStates motions edges faces
  have two (n : Nat) : leBytes 2 n = le2 n := leBytes_two n
  have four (n : Nat) : leBytes 4 n = le4 n := leBytes_four n
  have int (v : Int) : leInt v = signed v := (leInt_eq v).trans (four _)
  have flag (x : Bool) : [flagByte x] = yes x := rfl
  have opt (v : Option Nat) : optBytes 1 v = maybe v := optBytes_one v
  have rec_ (l : Option LiftRec) : liftRecBytes l = lift l := liftRecBytes_eq l
  have waiting (w : Option Nat) (bs : List Byte) (here : bs = waitingBytes w) :
      waits w (∀ ms, w = some ms → ms < 6553600) bs := by
    subst here
    cases w with
    | none => rfl
    | some ms => exact fun fits => waitingBytes_some (fits ms rfl)
  refine ⟨fun s => ⟨?_, ?_, ?_, ?_, ?_, ?_, ?_, ?_, ?_, ?_, ?_, ?_, ?_, ?_, ?_, ?_, ?_, ?_, ?_, ?_, ?_, ?_, ?_, ?_, ?_, ?_, ?_⟩,
    fun e place => ?_⟩
  · rw [State.lineStatus_eq, List.length_flatten, State.statusFields_length]
    rfl
  · refine (s.lineStatus_at 0 rfl (by decide)).trans ?_
    cases s.store.cause <;> rfl
  · exact (s.lineStatus_at 1 rfl (by decide)).trans (by rw [FaultSet.bits_eq]; rfl)
  · exact (s.lineStatus_at 2 rfl (by decide)).trans rfl
  · exact (s.lineStatus_at 3 rfl (by decide)).trans (by simp only [Bank.bytes, BankState.code_eq]; rfl)
  · exact (s.lineStatus_at 4 rfl (by decide)).trans (by
      rw [opt, RunnerState.code_eq, funext StepPhase.code_eq])
  · refine (s.lineStatus_at 5 rfl (by decide)).trans ?_
    cases s.runner.lift <;> rfl
  · exact s.lineStatus_at 6 rfl (by decide)
  · refine (s.lineStatus_at 7 rfl (by decide)).trans ((workBytes_eq _).trans ?_)
    cases s.runner.working with
    | none => rfl
    | some w => simp only [Edge.code_eq, Face.code_eq, two, four]; rfl
  · exact s.lineStatus_at 8 rfl (by decide)
  · refine (s.lineStatus_at 9 rfl (by decide)).trans ?_
    rw [opt, AxisState.code_eq, funext MovePhase.code_eq]
    cases s.gauge.valid <;> simp [yes, byteOf]
  · exact (s.lineStatus_at 10 rfl (by decide)).trans (by rw [int, int]; rfl)
  · refine (s.lineStatus_at 11 rfl (by decide)).trans ?_
    cases s.gauge.last with
    | none => rfl
    | some m => simp only [moveBytes, int]; rfl
  · refine (s.lineStatus_at 12 rfl (by decide)).trans ?_
    rw [opt, CycleState.code_eq, funext Purpose.code_eq, List.append_assoc _ _ (yes _)]
    rfl
  · exact (s.lineStatus_at 13 rfl (by decide)).trans (by rw [Monitor.code_eq]; rfl)
  · refine (s.lineStatus_at 14 rfl (by decide)).trans ?_
    rw [opt, opt, TurnerState.code_eq, funext InfeedMotion.code_eq, List.append_assoc _ (yes _) (yes _)]
    rfl
  · refine (s.lineStatus_at 15 rfl (by decide)).trans ?_
    cases s.infeed.pile with
    | none => rfl
    | some p => simp only [pileBytes, Edge.code_eq, Face.code_eq]; rfl
  · exact (s.lineStatus_at 16 rfl (by decide)).trans (by rw [LiftState.code_eq, rec_])
  · refine (s.lineStatus_at 17 rfl (by decide)).trans ?_
    rw [rec_, JoggerState.code_eq]
    simp [yes, flagByte]
  · refine (s.lineStatus_at 18 rfl (by decide)).trans ?_
    cases s.jogger.lastScan <;> rfl
  · exact (s.lineStatus_at 19 rfl (by decide)).trans (by rw [TransferPhase.code_eq]; rfl)
  · refine (s.lineStatus_at 20 rfl (by decide)).trans ?_
    rw [opt, UnitState.code_eq, funext Requester.code_eq]
  · exact waiting _ _ (s.lineStatus_at 21 rfl (by decide))
  · exact waiting _ _ (s.lineStatus_at 22 rfl (by decide))
  · exact waiting _ _ (s.lineStatus_at 23 rfl (by decide))
  · refine (s.lineStatus_at 24 rfl (by decide)).trans ?_
    rw [switchBits_eq, switchBits_eq, four, four]
  · exact (s.lineStatus_at 25 rfl (by decide)).trans (by rw [four]; rfl)
  · simp only [JobEntry.info, JobState.code_eq, two]
    have bank : maybe (e.bank.map fun x => [BankId.a, .b].idxOf x) = [bankByte e.bank] := (BankId.byte_eq _).symm
    rw [bank]
    simp

end Sys2Proof.Machine
end

section
/-! How a step completes, a lift ends and a job's figures are taken (R32, R63, R74 to R76). -/
namespace Sys2Proof.Machine

/-- The entry of a job after a change that leaves its number alone. -/
theorem State.entry_onEntry (s : State) (n : Nat) {f : JobEntry → JobEntry} (number : ∀ x, (f x).record.number = x.record.number) :
    (s.onEntry n f).entry n = (s.entry n).map f := by
  have same : ∀ x : JobEntry, (if x.record.number = n then f x else x).record.number = x.record.number := fun x => by
    split <;> simp [number]
  unfold State.entry State.onEntry
  rw [setJobs_jobs, List.find?_map]
  have alike : ((fun e : JobEntry => decide (e.record.number = n)) ∘ fun e => if e.record.number = n then f e else e) =
      fun e => decide (e.record.number = n) := funext fun x => by simp [same]
  rw [alike]
  cases h : s.jobs.find? fun e => decide (e.record.number = n) with
  | none => rfl
  | some e =>
    have hn : e.record.number = n := by simpa using List.find?_some h
    simp [hn]

/-- A changed entry leaves the table as the entry itself would. -/
theorem filter_onEntry (jobs : List JobEntry) (n : Nat) {f : JobEntry → JobEntry}
    (number : ∀ x, (f x).record.number = x.record.number) :
    (jobs.map fun e => if e.record.number = n then f e else e).filter (fun x => x.record.number ≠ n) =
      jobs.filter fun x => x.record.number ≠ n := by
  induction jobs with
  | nil => rfl
  | cons x xs ih =>
    by_cases h : x.record.number = n
    · simp only [List.map_cons, h, if_true, List.filter_cons, number, ne_eq, not_true, decide_false, Bool.false_eq_true, if_false]
      exact ih
    · simp only [List.map_cons, h, if_false, List.filter_cons, ne_eq, not_false_iff, decide_true, if_true]
      exact congrArg _ ih

/-- What the end of a job makes of table, banks and link. -/
theorem State.endJob_eq (s : State) (e : JobEntry) (st : JobState) (why : JobReason) :
    (s.endJob e st why).jobs = (s.jobs.filter fun x => x.record.number ≠ e.record.number) ∧
      (s.endJob e st why).bankA = (if e.bank = some .a then Bank.cleared else s.bankA) ∧
      (s.endJob e st why).bankB = (if e.bank = some .b then Bank.cleared else s.bankB) ∧
      (s.endJob e st why).link = s.link.offer (.job e.record.number st why) := by
  unfold State.endJob State.emptyBank State.dropEntry State.setBank State.notify
  cases e.bank with
  | none => simp
  | some b => cases b <;> simp

/-- The figures of a job are taken, and the job is DONE exactly where they meet. -/
theorem State.figuresTaken (s : State) (n : Nat) {f : JobEntry → JobEntry} (record : ∀ x, (f x).record = x.record)
    (bank : ∀ x, (f x).bank = x.bank) : FiguresTaken s ((s.onEntry n f).checkDone n) n f := by
  intro e entry
  have number : ∀ x, (f x).record.number = x.record.number := fun x => by rw [record]
  have found : (s.onEntry n f).entry n = some (f e) := by rw [State.entry_onEntry s n number, entry]; rfl
  have hn : e.record.number = n := by simpa using List.find?_some entry
  unfold State.checkDone
  rw [found]
  dsimp only
  split
  · obtain ⟨jobs, bankA, bankB, link⟩ := (s.onEntry n f).endJob_eq (f e) .done .none
    rw [number, hn] at jobs link
    rw [bank] at bankA bankB
    exact ⟨jobs.trans (filter_onEntry s.jobs n number), bankA, bankB, link⟩
  · exact ⟨rfl, rfl, rfl, rfl⟩

/-- The lift on the table ends as R76 gives. -/
theorem State.endLift_ends (s : State) {l : CurrentLift} (lift : s.runner.lift = some l) : LiftEnds s s.endLift l := by
  unfold State.endLift
  rw [lift]
  refine ⟨by simp [SameBut], by simp, ?_⟩
  intro e entry
  have taken := (s.notify (.lift l.job l.lift s.runner.tally)).figuresTaken l.job
    (f := fun e => { e with liftsCompleted := e.liftsCompleted + 1 }) (fun _ => rfl) (fun _ => rfl) e entry
  exact taken

/-- A step completes as R63, R74 and R75 give. -/
theorem State.completeStep_completes (s : State) : StepCompletes s s.completeStep := by
  intro l lift
  have count : (s.liftBank.map Bank.stepCount).getD 0 = (s.bank l.bank).stepCount := by simp [State.liftBank, lift]
  unfold State.completeStep State.beginStep
  dsimp only
  rw [count]
  by_cases more : s.runner.stepIndex + 1 < (s.bank l.bank).stepCount
  · rw [if_pos more, if_pos more]
    by_cases waits : s.runner.hold = true ∨ s.runner.firstOff = true
    · rw [if_pos waits, if_pos (by simpa using waits)]
      rfl
    · rw [if_neg waits, if_neg (by simpa using waits)]
      exact State.startStep_begins _
  · rw [if_neg more, if_neg more]
    by_cases first : s.runner.firstOff = true
    · rw [if_pos first, if_pos first]
    · rw [if_neg first, if_neg first]
      exact s.endLift_ends lift

/-- A held step begins, or the lift ends: the two cases of R75, once the flag is clear. -/
theorem State.resumeHeld_of_held (s : State) (held : s.runner.state = .held) (hold : s.runner.hold = false)
    (first : s.runner.firstOff = false) : s.resumeHeld = if s.runner.lastDone then s.endLift else s.startStep := by
  simp [State.resumeHeld, held, hold, first]

/-- What a held step's beginning leaves alone. -/
theorem State.startStep_frame_link (s : State) :
    s.startStep.link.requests = s.link.requests ∧ s.startStep.link.replies = s.link.replies ∧
      s.startStep.runner.hold = s.runner.hold ∧ s.startStep.runner.state = .running ∧
      s.startStep.runner.stepIndex = s.runner.stepIndex := by
  unfold State.startStep State.checkPlate State.setPhase State.await State.notify
  simp only [State.theStep, State.liftBank]
  repeat' split
  all_goals simp

end Sys2Proof.Machine
end

section
/-! HOLD, RESUME and ADMIT (R25, R63, R75). -/
namespace Sys2Proof.Machine

/-- Settles O15: the flag is cleared before the held step begins. -/
theorem holdResumeAndAdmit : Obligations.HoldResumeAndAdmit := by
  refine ⟨fun s f => ⟨fun asked len => ?_, fun asked len => ⟨fun idle => ?_, fun hold held first => ?_⟩⟩, fun s f asked len => ?_,
    fun s e => by simp [State.eligible]⟩
  · have served : s.serve 0x05#8 0 setHold = setHold f s.dequeue := State.serve_right s _ _ _ f asked len
    simp only [exec, execHold, served]
    rfl
  · have served : s.serve 0x06#8 0 clearHold = clearHold f s.dequeue := State.serve_right s _ _ _ f asked len
    have cleared : clearHold f s.dequeue = (s.setRunner { s.runner with hold := false }).setLink (s.link.replied f .ok 0 []) := by
      unfold clearHold
      cases hold : s.runner.hold
      · simp only [State.dequeue, setLink_runner, hold]
        rfl
      · have other : s.runner.state ≠ .held ∨ s.runner.firstOff = true := by simpa [hold] using idle
        have stays : (s.dequeue.setRunner { s.runner with hold := false }).resumeHeld =
            s.dequeue.setRunner { s.runner with hold := false } := by
          rcases other with h | h <;> simp [State.resumeHeld, h]
        simp only [State.dequeue, setLink_runner, hold, if_true] at stays ⊢
        rw [stays]
        rfl
    simp only [exec, execResume, served, cleared]
  · intro base
    have served : s.serve 0x06#8 0 clearHold = clearHold f s.dequeue := State.serve_right s _ _ _ f asked len
    have resumed : base.resumeHeld = if s.runner.lastDone then base.endLift else base.startStep :=
      base.resumeHeld_of_held held rfl first
    have cleared : clearHold f s.dequeue = base.resumeHeld.answer f .ok 0 [] := by
      unfold clearHold
      simp only [State.dequeue, setLink_runner, hold, if_true]
      rfl
    have from_ : SameBut [.link, .runner] s base := by simp [SameBut, base]
    refine ⟨base.resumeHeld, by simp only [exec, execResume, served, cleared]; rfl, ?_, ?_, ?_, ?_, ?_, ?_⟩
    · exact from_.mono.trans (by simp [SameBut])
    · rw [resumed]
      split
      · unfold State.endLift
        split <;> simp [base]
      · exact base.startStep_frame_link.2.2.1
    · exact congrArg (fun x : Link × Bool => x.1.requests) base.resumeHeld_unnoticed
    · exact congrArg (fun x : Link × Bool => x.1.replies) base.resumeHeld_unnoticed
    · intro more
      rw [resumed, more]
      obtain ⟨-, -, -, state, index⟩ := base.startStep_frame_link
      exact ⟨state, index, base.startStep_begins⟩
    · intro l lift last
      rw [resumed, last]
      exact base.endLift_ends lift
  · have served : s.serve 0x07#8 1 setLevel = setLevel f s.dequeue := State.serve_right s _ _ _ f asked len
    simp only [exec, execAdmitLevel, served, setLevel]
    split <;> rfl

end Sys2Proof.Machine
end

section
/-! REFERENCE, the store's writes, the notice modes and RESTART (R85, R179 to R181, R189, R190). -/
namespace Sys2Proof.Machine

/-- A reference run's start is the gauge's alone. -/
theorem State.startReference_eq (s : State) : s.startReference = s.setGauge s.startReference.gauge := by
  unfold State.startReference
  (repeat' split) <;> rfl

/-- Settles O19: the record takes its value, then the replies join. -/
theorem storeWriteCompletes : Obligations.StoreWriteCompletes := by
  intro s w inFlight
  have written : { s.store.commit w.target with write := none } =
      { s.store with
        consts := (match w.target with | .const n v => s.store.consts.put n v | .cls _ _ => s.store.consts)
        classes := (match w.target with | .const _ _ => s.store.classes | .cls n c => s.store.classes.set n c)
        write := none } := by
    unfold Store.commit
    cases w.target <;> rfl
  refine ⟨s.completeWrite w, by simp only [exec, execStoreWriteComplete, inFlight], ?_, ?_, ?_⟩
  · unfold State.completeWrite
    dsimp only
    (repeat' split) <;> simp [SameBut, State.reply]
  · refine Eq.trans ?_ written
    unfold State.completeWrite
    dsimp only
    (repeat' split) <;> simp [State.reply]
  · unfold State.completeWrite
    cases restart : s.link.restart with
    | none => simp [State.reply, restart]
    | some tag =>
      cases deferred : s.link.restartDeferred <;> simp [State.reply, restart, deferred]

/-- Settles O20: each request on its two codes. -/
theorem noticeModeRearmAndRestart : Obligations.NoticeModeRearmAndRestart := by
  have noClass (n : Nat) (h : 4 < n) : classOfCode n = none := by
    unfold classOfCode
    split
    case h_6 => rfl
    all_goals omega
  have aClass (n : Nat) (h : n ≤ 4) : ∃ c, classOfCode n = some c := by
    interval_cases n <;> exact ⟨_, rfl⟩
  have noMode (n : Nat) (h : 2 < n) : modeOfCode n = none := by
    unfold modeOfCode
    split
    case h_4 => rfl
    all_goals omega
  refine ⟨fun s f => ⟨fun asked len => ?_, fun asked len => ?_⟩, fun s f asked len => ⟨fun idle => ?_, fun busy => ?_, ?_⟩⟩
  · have served : s.serve 0x0E#8 2 setMode = setMode f s.dequeue := State.serve_right s _ _ _ f asked len
    simp only [exec, execNoticeMode, served, setMode]
    refine ⟨fun h => ?_, fun h h2 => ?_, fun c m h h2 => ?_⟩
    · rw [noClass _ h]
      rfl
    · obtain ⟨c, hc⟩ := aClass _ h
      rw [hc, noMode _ h2]
      rfl
    · rw [h, h2]
      rfl
  · have served : s.serve 0x0F#8 1 rearmClass = rearmClass f s.dequeue := State.serve_right s _ _ _ f asked len
    simp only [exec, execRearm, served, rearmClass]
    refine ⟨fun h => ?_, fun c h => ?_⟩
    · rw [noClass _ h]
      rfl
    · rw [h]
      rfl
  · have served : s.serve 0x10#8 0 restartRequest = restartRequest f s.dequeue := State.serve_right s _ _ _ f asked len
    have idle : s.dequeue.store.write = none := idle
    simp only [exec, execRestart, served, restartRequest, idle]
    rfl
  · have served : s.serve 0x10#8 0 restartRequest = restartRequest f s.dequeue := State.serve_right s _ _ _ f asked len
    have busy : s.dequeue.store.write.isSome = true := Option.isSome_iff_ne_none.2 busy
    simp only [exec, execRestart, served, restartRequest, busy, if_true]
    rfl
  · intro t restart
    have restart : t.link.restart.isNone = false := by
      cases h : t.link.restart with
      | none => exact absurd h restart
      | some tag => rfl
    simp [Link.serving, restart]

/-- The checks of R180 in their order. -/
theorem firstBadClassField_eq (draw pressure dwell intensity limit : Nat) :
    firstBadClassField ⟨draw, pressure, dwell, intensity, limit⟩ =
      if 40 < draw then some 2
      else if pressure < 1 ∨ 8 < pressure then some 3
      else if 2000 < dwell then some 4
      else if intensity < 1 ∨ 4 < intensity then some 5
      else if limit < 1 ∨ 60 < limit then some 6
      else none := by
  simp only [firstBadClassField, Bool.or_eq_true, decide_eq_true_eq]

/-- Settles O18: the checks in their order. -/
theorem storeWritesAreChecked : Obligations.StoreWritesAreChecked := by
  refine ⟨fun s f asked len => ?_, fun s f key asked len => ?_⟩
  · have served : s.serve 0x0A#8 7 classWrite = classWrite f s.dequeue := State.serve_right s _ _ _ f asked len
    have store : s.dequeue.store = s.store := rfl
    have flight : s.store.write.isSome = true ↔ s.store.write ≠ none := Option.isSome_iff_ne_none
    simp only [exec, execClassSet, served, classWrite, classOfBody, firstBadClassField_eq, store, flight]
    by_cases far : 15 < fieldAt f.body 0 1
    · rw [if_pos far, if_pos far]; rfl
    rw [if_neg far, if_neg far]
    by_cases busy : s.store.write ≠ none
    · rw [if_pos busy, if_pos busy]; rfl
    rw [if_neg busy, if_neg busy]
    by_cases draw : 40 < fieldAt f.body 1 1
    · rw [if_pos draw, if_pos draw]; rfl
    rw [if_neg draw, if_neg draw]
    by_cases pressure : fieldAt f.body 2 1 < 1 ∨ 8 < fieldAt f.body 2 1
    · rw [if_pos pressure, if_pos pressure]; rfl
    rw [if_neg pressure, if_neg pressure]
    by_cases dwell : 2000 < fieldAt f.body 3 2
    · rw [if_pos dwell, if_pos dwell]; rfl
    rw [if_neg dwell, if_neg dwell]
    by_cases intensity : fieldAt f.body 5 1 < 1 ∨ 4 < fieldAt f.body 5 1
    · rw [if_pos intensity, if_pos intensity]; rfl
    rw [if_neg intensity, if_neg intensity]
    by_cases limit : fieldAt f.body 6 1 < 1 ∨ 60 < fieldAt f.body 6 1
    · rw [if_pos limit, if_pos limit]; rfl
    rw [if_neg limit, if_neg limit]
    rfl
  · have served : s.serve 0x0C#8 5 (constWrite key) = constWrite key f s.dequeue := State.serve_right s _ _ _ f asked len
    have key_ : (s.dequeue.sense .serviceKey key).on .serviceKey = key := by simp
    have running : (s.dequeue.sense .serviceKey key).jobRunning = s.jobRunning := rfl
    have store : (s.dequeue.sense .serviceKey key).store = s.store := rfl
    have inputs : (constWrite key f s.dequeue).inputs = (s.sense .serviceKey key).inputs := by
      unfold constWrite
      dsimp only
      (repeat' split) <;> rfl
    refine ⟨constWrite key f s.dequeue, by simp only [exec, execConstSet, served], ?_, ?_, ?_, ?_, ?_, ?_, ?_, ?_, ?_, ?_⟩
    · unfold constWrite
      dsimp only
      (repeat' split) <;> simp [SameBut, State.dequeue, State.startWrite]
    · simp [State.on, inputs, State.sense_filtered]
    · intro x hx
      simp [State.on, inputs, State.sense_filtered, hx]
    all_goals simp only [constWrite, key_, running, store, Bool.not_eq_true', Bool.or_eq_true]
    · (repeat' split) <;> rfl
    · (repeat' split) <;> rfl
    · (repeat' split) <;> rfl
    · intro unknown
      rw [if_pos unknown]
      exact ⟨rfl, rfl⟩
    · intro known protected_
      rw [if_neg (by simp [known]), if_pos protected_]
      exact ⟨rfl, rfl⟩
    · intro known open_ busy
      rw [if_neg (by simp [known]), if_neg (by simp [open_]), if_pos busy]
      exact ⟨rfl, rfl⟩
    · intro known open_ noJob idle
      rw [if_neg (by simp [known]), if_neg (by simp [open_]), if_neg (by simp [noJob, idle])]
      refine ⟨fun bad => ?_, fun good => ?_⟩
      · rw [if_neg (by simp [bad])]
        exact ⟨rfl, rfl⟩
      · rw [if_pos good]
        exact ⟨rfl, rfl⟩

end Sys2Proof.Machine

namespace Sys2Proof
open Machine

/-- Settles O17: the five refusals, or the start. -/
theorem referenceRequest : Obligations.ReferenceRequest := by
  intro s f asked len
  have served : s.serve 0x09#8 0 Machine.referenceRequest = Machine.referenceRequest f s.dequeue :=
    State.serve_right s _ _ _ f asked len
  have busy : s.dequeue.referenceBusy = true ↔ s.gauge.inMotion = true ∨ s.cycle.state ≠ .ready ∨
      s.runner.inPhase .awaitStart = true ∨ s.stop = true ∨ s.guillotineHalt = true := by
    simp only [State.referenceBusy, Bool.or_eq_true, decide_eq_true_eq, or_assoc]
    rfl
  refine ⟨fun refused => ?_, fun still ready start stop halt => ?_⟩
  · simp only [exec, execReference, served, Machine.referenceRequest, busy.2 refused, if_true]
    rfl
  · have free : ¬ s.dequeue.referenceBusy = true := by
      rw [busy]
      simp [still, ready, start, stop, halt]
    refine ⟨s.dequeue.startReference.answer f .ok 0 [], ?_, ?_, ?_, s.dequeue.startReference_starts⟩
    · simp only [exec, execReference, served, Machine.referenceRequest, if_neg free]
    · rw [State.startReference_eq]
      simp [SameBut, State.dequeue]
    · rw [State.startReference_eq]
      rfl

end Sys2Proof
end

section
/-! The places of the reactions and of the part's own events, and CLEAR with what it lets go (R172, R98, R117). -/
namespace Sys2Proof.Machine

/-- The first answer of a row of functions, where none before place `n` answers. -/
theorem findSome_at {α β : Type} {xs : List (α → Option β)} {n : Nat} {r : α → Option β} (place : xs[n]? = some r) {a : α} {b : β}
    (here : r a = some b) (before : ∀ q ∈ xs.take n, q a = none) : (xs.findSome? fun r => r a) = some b := by
  obtain ⟨hn, hr⟩ := List.getElem?_eq_some_iff.1 place
  rw [← List.take_append_drop n xs, List.findSome?_append, List.drop_eq_getElem_cons hn, List.findSome?_cons, hr, here]
  simp [List.findSome?_eq_none_iff.2 before]

/-- A reaction of the list takes place where it is the first one due. -/
theorem takenAt_of_place {n : Nat} {r : State → Option State} (place : reactions[n]? = some r) : TakenAt n r := by
  refine ⟨place, fun s quiet => (react_none s).1 quiet r (List.mem_of_getElem? place), fun s t here before => ?_⟩
  have due : react s = some t := findSome_at place here before
  refine ⟨due, ?_⟩
  have settled : settleN (63 + 1) s = settleN 63 t := by rw [settleN, due]
  exact congrArg State.transmit settled

/-- An event of the list is put in the queue where it is the first one that has come about. -/
theorem eventAt_of_place {n : Nat} {e : State → Option Instr} (place : ownEvents[n]? = some e) : EventAt n e :=
  ⟨place, fun _ _ here before => findSome_at place here before⟩

/-- What the field shows at a CLEAR touches none of the inputs that a clear condition asks. -/
theorem State.view_uncleared (b : State) (v : FieldView) : (b.view v).uncleared = b.uncleared := by
  simp [State.uncleared, State.view, State.on, State.sense_filtered]

theorem State.view_clearFaults (b : State) (v : FieldView) :
    SameBut [.link, .inputs, .channels, .faults] b (b.view v).clearFaults ∧ (b.view v).clearFaults.faults = b.uncleared ∧
      ((b.view v).clearFaults.link = if b.uncleared = b.faults then b.link else b.link.offer (.fault b.uncleared)) ∧
      (b.view v).clearFaults.channels = { b.channels with pileTop := v.pileTop } ∧
      (b.view v).clearFaults.inputs = (b.view v).inputs := by
  have faults : (b.view v).faults = b.faults := by simp
  have link : (b.view v).link = b.link := by simp
  have channels : (b.view v).channels = { b.channels with pileTop := v.pileTop } := rfl
  unfold State.clearFaults
  rw [State.view_uncleared, faults]
  by_cases same : b.uncleared = b.faults
  · rw [if_pos same, if_pos same]
    exact ⟨by simp [SameBut], faults.trans same.symm, link, channels, rfl⟩
  · rw [if_neg same, if_neg same]
    exact ⟨by simp [SameBut], by simp [State.changeFaults], by simp [State.changeFaults, State.notify], by simp [channels],
      by simp⟩

/-- The levels after a CLEAR. -/
theorem State.view_on (b : State) (v : FieldView) (x : Switch) :
    (b.view v).on x = if x = .clampTop then v.clampTop else if x = .knifeTop then v.knifeTop else b.on x := by
  simp [State.view, State.on, State.sense_filtered]

/-- Settles O16: the clearing, then the two reactions that it can let go. -/
theorem clearRemovesClearedFaults : Obligations.ClearRemovesClearedFaults := by
  refine ⟨fun s v left hleft => ⟨fun f asked len => ?_, ?_⟩, takenAt_of_place rfl, takenAt_of_place rfl, fun s => ⟨?_, ?_, ?_⟩⟩
  · have served : s.serve 0x08#8 0 (clearRequest v) = clearRequest v f s.dequeue := State.serve_right s _ _ _ f asked len
    obtain ⟨same, faults, link, channels, inputs⟩ := s.dequeue.view_clearFaults v
    have left_ : s.dequeue.uncleared = left := hleft.symm
    have on (x : Switch) : (clearRequest v f s.dequeue).on x = (s.dequeue.view v).on x := by
      rw [State.on, State.on, ← inputs]
      rfl
    have dequeued : SameBut [.link, .inputs, .channels, .faults] s s.dequeue := by simp [SameBut, State.dequeue]
    have answered : SameBut [.link] (s.dequeue.view v).clearFaults (clearRequest v f s.dequeue) := by
      unfold clearRequest
      simp [SameBut]
    refine ⟨clearRequest v f s.dequeue, by simp only [exec, execClear, served], (dequeued.trans same).trans answered.mono,
      faults.trans left_, ?_, channels, ?_, ?_, fun x knife clamp => ?_⟩
    · have told : (s.dequeue.view v).clearFaults.link =
          { (if left = s.faults then s.link else s.link.offer (.fault left)) with requests := s.link.requests.tail } := by
        rw [link, left_]
        by_cases e : left = s.faults
        · have e' : left = s.dequeue.faults := e
          rw [if_pos e, if_pos e']
          rfl
        · have e' : ¬ left = s.dequeue.faults := e
          rw [if_neg e, if_neg e']
          exact Link.offer_requests ..
      have requests : (if left = s.faults then s.link else s.link.offer (.fault left)).requests = s.link.requests := by
        split <;> simp
      simp only [clearRequest, State.answer_link, told, Link.replied, requests]
    · simp [on, State.view_on]
    · simp [on, State.view_on]
    · rw [on, State.view_on, if_neg clamp, if_neg knife]
      rfl
  · obtain ⟨same, faults, link, channels, inputs⟩ := (s.sense .resetBtn true).view_clearFaults v
    have left_ : (s.sense .resetBtn true).uncleared = left := by
      rw [hleft]
      simp [State.uncleared, State.on, State.sense_filtered]
    have on (x : Switch) : ((s.sense .resetBtn true).view v).clearFaults.on x = ((s.sense .resetBtn true).view v).on x := by
      rw [State.on, State.on, inputs]
    have sensed : SameBut [.link, .inputs, .channels, .faults] s (s.sense .resetBtn true) := by simp [SameBut]
    rw [left_] at faults link
    refine ⟨_, rfl, sensed.trans same, faults, link, channels, ?_, ?_, ?_, fun x knife clamp button => ?_⟩
    · simp [on, State.view_on]
    · simp [on, State.view_on]
    · simp [on, State.view_on]
    · rw [on, State.view_on, if_neg clamp, if_neg knife]
      simp [State.on, State.sense_filtered, button]
  · have none_ : (decide (s.gauge.state = .faulted) && !s.faults.axis) = true ↔
        s.gauge.state = .faulted ∧ s.faults.gaugePosition = false ∧ s.faults.encoderStall = false ∧
          s.faults.referenceFail = false := by
      simp [FaultSet.axis, and_assoc]
    simp only [axisUnfault, none_]
    rfl
  · intro other
    have : ¬ (decide (s.cycle.state = .stopped) && !s.stop) = true := by
      rcases other with h | h <;> simp [h]
    rw [cycleUnstop, if_neg this]
  · intro stopped clear
    have here : (decide (s.cycle.state = .stopped) && !s.stop) = true := by simp [stopped, clear]
    refine ⟨fun low => ?_, fun knife clamp => ⟨s.endCycle, ?_, s.endCycle_ends⟩⟩
    · have : ¬ (s.on .knifeTop && s.on .clampTop) = true := by
        rcases low with h | h <;> simp [h]
      rw [cycleUnstop, if_pos here, if_neg this]
    · rw [cycleUnstop, if_pos here, if_pos (by simp [knife, clamp])]

end Sys2Proof.Machine
end

section
/-! The totals of a plan (R56): what every operation of the planner's model adds to the step list and to the model Aside List. -/
namespace Sys2Proof.Machine

/-- The counts of a step list: steps, CUT steps, OUTPUT and WASTE take-aways. -/
@[ext] structure PlanCount where
  steps : Nat
  cuts : Nat
  outputs : Nat
  waste : Nat

/-- The counts of two lists together. -/
def PlanCount.plus (c d : PlanCount) : PlanCount :=
  ⟨c.steps + d.steps, c.cuts + d.cuts, c.outputs + d.outputs, c.waste + d.waste⟩

/-- The counts of `n` lists alike. -/
def PlanCount.times (n : Nat) (c : PlanCount) : PlanCount := ⟨n * c.steps, n * c.cuts, n * c.outputs, n * c.waste⟩

theorem PlanCount.plus_assoc (c d e : PlanCount) : (c.plus d).plus e = c.plus (d.plus e) := by
  simp [PlanCount.plus, Nat.add_assoc]

theorem PlanCount.plus_zero (c : PlanCount) : c.plus ⟨0, 0, 0, 0⟩ = c := rfl

theorem PlanCount.times_succ (n : Nat) (c : PlanCount) : PlanCount.times (n + 1) c = (PlanCount.times n c).plus c := by
  simp [PlanCount.times, PlanCount.plus, Nat.succ_mul]

theorem PlanCount.plus_comm (c d : PlanCount) : c.plus d = d.plus c := by
  simp [PlanCount.plus, Nat.add_comm]

/-- The counts of the steps written so far. -/
def PlanModel.count (m : PlanModel) : PlanCount :=
  ⟨m.steps.length, countCuts m.steps, countOutputs m.steps, countWaste m.steps⟩

/-- What counts of a model: whether there is a Working Stack, the depth and the peak of the Aside List, the counts. -/
structure PlanModel.Has (m : PlanModel) (work : Bool) (aside peak : Nat) (c : PlanCount) : Prop where
  work : m.work.isSome = work
  aside : m.aside.length = aside
  peak : m.peak = peak
  count : m.count = c

/-- What one action adds to the counts. -/
def StepAction.count (a : StepAction) : PlanCount :=
  match a with
  | .cut _ .output _ => ⟨1, 1, 1, 0⟩
  | .cut _ .waste _ => ⟨1, 1, 0, 1⟩
  | .cut _ .aside _ => ⟨1, 1, 0, 0⟩
  | .take .output => ⟨1, 0, 1, 0⟩
  | .take .waste => ⟨1, 0, 0, 1⟩
  | .turn _ | .recall => ⟨1, 0, 0, 0⟩

theorem PlanModel.emit_count (m : PlanModel) (strip : Nat) (a : StepAction) (work : Option ModelStack) (aside : List ModelStack) :
    (m.emit strip a work aside).count = m.count.plus a.count := by
  rcases a with ⟨n, d, p⟩ | t | _ | d
  · cases d <;> simp [PlanModel.emit, PlanModel.count, PlanCount.plus, StepAction.count, countCuts, countOutputs, countWaste]
  · simp [PlanModel.emit, PlanModel.count, PlanCount.plus, StepAction.count, countCuts, countOutputs, countWaste]
  · simp [PlanModel.emit, PlanModel.count, PlanCount.plus, StepAction.count, countCuts, countOutputs, countWaste]
  · cases d <;> simp [PlanModel.emit, PlanModel.count, PlanCount.plus, StepAction.count, countCuts, countOutputs, countWaste]

section
variable {k : PlanConsts} {r : JobRecord} {m : PlanModel} {a p : Nat} {c : PlanCount}

/-! ### The four operations -/

theorem PlanModel.Has.cut (h : m.Has true a p c) (hp : a ≤ p) {n strip : Nat} {d : Disposition} (hd : d ≠ .aside) :
    (m.cut k n d strip).Has true a p (c.plus (StepAction.cut 0 d false).count) := by
  obtain ⟨w, hw⟩ := Option.isSome_iff_exists.1 h.work
  unfold PlanModel.cut
  rw [hw]
  refine ⟨rfl, by simp [PlanModel.emit, hd, h.aside], by simp [PlanModel.emit, hd, h.aside, h.peak, hp], ?_⟩
  dsimp only
  rw [PlanModel.emit_count, h.count]
  cases d <;> rfl

theorem PlanModel.Has.cutAside (h : m.Has true a p c) {n strip : Nat} :
    (m.cut k n .aside strip).Has true (a + 1) (max p (a + 1)) (c.plus ⟨1, 1, 0, 0⟩) := by
  obtain ⟨w, hw⟩ := Option.isSome_iff_exists.1 h.work
  unfold PlanModel.cut
  rw [hw]
  refine ⟨rfl, by simp [PlanModel.emit, h.aside], by simp [PlanModel.emit, h.aside, h.peak], ?_⟩
  dsimp only
  rw [PlanModel.emit_count, h.count]
  rfl

theorem PlanModel.Has.turn (h : m.Has true a p c) (hp : a ≤ p) {t : TurnKind} {strip : Nat} :
    (m.turn t strip).Has true a p (c.plus ⟨1, 0, 0, 0⟩) := by
  obtain ⟨w, hw⟩ := Option.isSome_iff_exists.1 h.work
  unfold PlanModel.turn
  rw [hw]
  refine ⟨rfl, by simp [PlanModel.emit, h.aside], by simp [PlanModel.emit, h.aside, h.peak, hp], ?_⟩
  dsimp only
  rw [PlanModel.emit_count, h.count]
  rfl

theorem PlanModel.Has.take (h : m.Has true a p c) (hp : a ≤ p) {d : TakeDisposition} :
    (m.take d).Has false a p (c.plus (StepAction.take d).count) := by
  obtain ⟨w, hw⟩ := Option.isSome_iff_exists.1 h.work
  unfold PlanModel.take
  rw [hw]
  refine ⟨rfl, by simp [PlanModel.emit, h.aside], by simp [PlanModel.emit, h.aside, h.peak, hp], ?_⟩
  dsimp only
  rw [PlanModel.emit_count, h.count]

theorem PlanModel.Has.recall {w : Bool} (h : m.Has w (a + 1) p c) (hp : a ≤ p) :
    m.recall.Has true a p (c.plus ⟨1, 0, 0, 0⟩) := by
  obtain ⟨x, rest, hx⟩ := List.exists_cons_of_length_eq_add_one h.aside
  have len : rest.length = a := by simpa [hx] using h.aside
  unfold PlanModel.recall
  rw [hx]
  refine ⟨rfl, by simp [PlanModel.emit, len], by simp [PlanModel.emit, len, h.peak, hp], ?_⟩
  dsimp only
  rw [PlanModel.emit_count, h.count]
  rfl

/-! ### The two phases -/

/-- Counts that are the same. -/
theorem PlanModel.Has.counts {w : Bool} {d : PlanCount} (h : m.Has w a p c) (e : c = d) : m.Has w a p d := e ▸ h

/-- A row of phase A, a column of phase B: the cut, and its gutter where there is one. -/
def gutterCount (gutter : Nat) (first : PlanCount) : PlanCount := first.plus (if 0 < gutter then ⟨1, 1, 0, 1⟩ else ⟨0, 0, 0, 0⟩)

theorem planRows_has (h : m.Has true 0 0 c) (rows : Nat) :
    (planRows r k m rows).Has true rows rows (c.plus (.times rows (gutterCount r.gl ⟨1, 1, 0, 0⟩))) := by
  induction rows with
  | zero => simpa [planRows, PlanCount.times, PlanCount.plus] using h
  | succ i ih =>
    have row : PlanModel.Has (PlanModel.cut k (planRows r k m i) ((planRows r k m i).pos - r.pl) .aside (i + 1)) true (i + 1)
        (max i (i + 1)) _ := ih.cutAside
    rw [Nat.max_eq_right (Nat.le_succ i)] at row
    unfold planRows
    dsimp only
    split
    · next gutter =>
      exact (row.cut (Nat.le_refl _) (by simp)).counts
        (by simp only [PlanCount.times_succ, gutterCount, gutter, if_true, PlanCount.plus_assoc]; rfl)
    · next gutter =>
      exact row.counts (by simp only [PlanCount.times_succ, gutterCount, gutter, if_false, PlanCount.plus_assoc]; rfl)

/-- Phase A: the tail trim, the rows, the final edge; the first strip is left at the gauge or aside. -/
theorem planPhaseA_has (r : JobRecord) (k : PlanConsts) :
    let tail : PlanCount := if 0 < trimTail r then ⟨1, 1, 0, 1⟩ else ⟨0, 0, 0, 0⟩
    let rows : PlanCount := tail.plus (.times (r.nr - 1) (gutterCount r.gl ⟨1, 1, 0, 0⟩))
    if 0 < r.trimGrip then
      (planPhaseA r k).Has (!decide (k.gminStd ≤ r.trimGrip)) (r.nr - 1 + if k.gminStd ≤ r.trimGrip then 1 else 0)
        (r.nr - 1 + if k.gminStd ≤ r.trimGrip then 1 else 0) (rows.plus ⟨2, 1, 0, 1⟩)
    else (planPhaseA r k).Has true (r.nr - 1) (r.nr - 1) rows := by
  intro tail rows
  have start : (planStartModel r).Has true 0 0 ⟨0, 0, 0, 0⟩ := ⟨rfl, rfl, rfl, rfl⟩
  have trimmed : PlanModel.Has (if 0 < trimTail r then (planStartModel r).wasteA r k (trimTail r).toNat else planStartModel r)
      true 0 0 tail := by
    unfold tail
    split
    · exact start.cut (Nat.le_refl _) (by simp)
    · exact start
  have done := planRows_has (k := k) (r := r) trimmed (r.nr - 1)
  unfold planPhaseA planFinalA
  dsimp only
  by_cases grip : 0 < r.trimGrip
  · rw [if_pos grip, if_neg (Nat.ne_of_gt grip)]
    by_cases wide : k.gminStd ≤ r.trimGrip
    · simp only [wide, if_true, decide_true, Bool.not_true]
      have aside := done.cutAside (k := k) (n := r.trimGrip) (strip := r.nr)
      rw [Nat.max_eq_right (Nat.le_succ _)] at aside
      exact (aside.take (Nat.le_refl _)).counts (by rw [PlanCount.plus_assoc]; rfl)
    · simp only [wide, if_false, decide_false, Bool.not_false]
      exact ((done.turn (Nat.le_refl _)).cut (Nat.le_refl _) (by simp)).counts (by rw [PlanCount.plus_assoc]; rfl)
  · rw [if_neg grip, if_pos (Nat.eq_zero_of_not_pos grip)]
    exact done

/-- The final edge of a strip (R51). -/
def finalCount (r : JobRecord) (k : PlanConsts) : PlanCount :=
  if r.trimLay = 0 then ⟨1, 0, 1, 0⟩ else if k.gminStd ≤ r.trimLay then ⟨2, 1, 1, 1⟩ else ⟨3, 1, 1, 1⟩

/-- A strip in phase B (R49 to R51). -/
def stripCount (r : JobRecord) (k : PlanConsts) : PlanCount :=
  if phaseBCuts r then
    (((⟨1, 0, 0, 0⟩ : PlanCount).plus (if 0 < trimOff r then ⟨1, 1, 0, 1⟩ else ⟨0, 0, 0, 0⟩)).plus
      (.times (r.nc - 1) (gutterCount r.gw ⟨1, 1, 1, 0⟩))).plus (finalCount r k)
  else ⟨1, 0, 1, 0⟩

theorem planColumns_has (h : m.Has true a p c) (hp : a ≤ p) (strip cols : Nat) :
    (planColumns r k strip m cols).Has true a p (c.plus (.times cols (gutterCount r.gw ⟨1, 1, 1, 0⟩))) := by
  induction cols with
  | zero => simpa [planColumns, PlanCount.times, PlanCount.plus] using h
  | succ i ih =>
    have col : PlanModel.Has (PlanModel.cut k (planColumns r k strip m i) ((planColumns r k strip m i).pos - r.pw) .output strip)
        true a p _ := ih.cut hp (by simp)
    unfold planColumns
    dsimp only
    split
    · next gutter =>
      exact (col.cut hp (by simp)).counts
        (by simp only [PlanCount.times_succ, gutterCount, gutter, if_true, PlanCount.plus_assoc]; rfl)
    · next gutter =>
      exact col.counts (by simp only [PlanCount.times_succ, gutterCount, gutter, if_false, PlanCount.plus_assoc]; rfl)

theorem planFinalB_has (h : m.Has true a p c) (hp : a ≤ p) (strip : Nat) :
    (planFinalB r k strip m).Has false a p (c.plus (finalCount r k)) := by
  unfold planFinalB finalCount
  split
  · exact h.take hp
  · split
    · exact ((h.cut hp (by simp)).take hp).counts (by rw [PlanCount.plus_assoc]; rfl)
    · exact (((h.turn hp).cut hp (by simp)).take hp).counts (by simp only [PlanCount.plus_assoc]; rfl)

theorem planStrip_has (h : m.Has true a p c) (hp : a ≤ p) (strip : Nat) :
    (planStrip r k strip m).Has false a p (c.plus (stripCount r k)) := by
  obtain ⟨w, hw⟩ := Option.isSome_iff_exists.1 h.work
  unfold planStrip stripCount
  rw [hw]
  dsimp only
  split
  · have turned : (m.turn (layTurn w.orient) strip).Has true a p _ := h.turn hp
    have trimmed : PlanModel.Has
        (if 0 < trimOff r then
          (m.turn (layTurn w.orient) strip).cut k ((m.turn (layTurn w.orient) strip).pos - (trimOff r).toNat) .waste strip
        else m.turn (layTurn w.orient) strip)
        true a p ((c.plus ⟨1, 0, 0, 0⟩).plus (if 0 < trimOff r then ⟨1, 1, 0, 1⟩ else ⟨0, 0, 0, 0⟩)) := by
      split
      · exact turned.cut hp (by simp)
      · exact turned
    exact (planFinalB_has (planColumns_has trimmed hp strip (r.nc - 1)) hp strip).counts (by simp only [PlanCount.plus_assoc])
  · exact h.take hp

theorem planRecalls_has {w : Bool} (n : Nat) (h : m.Has w n p c) (hp : n ≤ p) :
    ∃ w', (planRecalls r k m n).Has w' 0 p (c.plus (.times n ((⟨1, 0, 0, 0⟩ : PlanCount).plus (stripCount r k)))) := by
  induction n generalizing m w c with
  | zero => exact ⟨w, by simpa [planRecalls, PlanCount.times, PlanCount.plus] using h⟩
  | succ n ih =>
    have hp : n ≤ p := Nat.le_of_succ_le hp
    obtain ⟨w', done⟩ := ih (planStrip_has (h.recall hp) hp m.recall.strip) hp
    refine ⟨w', done.counts ?_⟩
    rw [PlanCount.times_succ, PlanCount.plus_comm (.times n _), PlanCount.plus_assoc, PlanCount.plus_assoc]
    simp only [PlanCount.plus_assoc]

/-- Every strip of the Aside List is recalled and cut; the one left at the gauge is cut before them. -/
theorem planPhaseB_has {w : Bool} (h : m.Has w a p c) (hp : a ≤ p) :
    ∃ w', (planPhaseB r k m).Has w' 0 p
      (c.plus ((PlanCount.times a ⟨1, 0, 0, 0⟩).plus (.times (a + if w then 1 else 0) (stripCount r k)))) := by
  have apart (n : Nat) (d : PlanCount) :
      PlanCount.times n ((⟨1, 0, 0, 0⟩ : PlanCount).plus d) = (PlanCount.times n ⟨1, 0, 0, 0⟩).plus (.times n d) := by
    simp [PlanCount.times, PlanCount.plus, Nat.mul_add]
  unfold planPhaseB
  rw [h.aside]
  cases w with
  | false =>
    have none_ : m.work = none := by simpa using h.work
    have stays : planStrip r k r.nr m = m := by simp [planStrip, none_]
    obtain ⟨w', done⟩ := planRecalls_has (k := k) (r := r) a h hp
    rw [stays]
    exact ⟨w', done.counts (by rw [apart]; rfl)⟩
  | true =>
    obtain ⟨w', done⟩ := planRecalls_has (k := k) (r := r) a (planStrip_has h hp r.nr) hp
    refine ⟨w', done.counts ?_⟩
    rw [apart, if_pos rfl, PlanCount.times_succ, PlanCount.plus_assoc, PlanCount.plus_comm (stripCount r k), PlanCount.plus_assoc]

end

/-- The whole expansion: phase A, every strip once, and a recall for each strip of the Aside List. -/
theorem expand_has (r : JobRecord) (k : PlanConsts) (rows : 1 ≤ r.nr) (positive : 0 < k.gminStd) :
    let tail : PlanCount := if 0 < trimTail r then ⟨1, 1, 0, 1⟩ else ⟨0, 0, 0, 0⟩
    let grip : PlanCount := if 0 < r.trimGrip then ⟨2, 1, 0, 1⟩ else ⟨0, 0, 0, 0⟩
    let peak := r.nr - 1 + if k.gminStd ≤ r.trimGrip then 1 else 0
    ∃ w, (expand r k).Has w 0 peak
      (((tail.plus (.times (r.nr - 1) (gutterCount r.gl ⟨1, 1, 0, 0⟩))).plus grip).plus
        ((PlanCount.times peak ⟨1, 0, 0, 0⟩).plus (.times r.nr (stripCount r k)))) := by
  intro tail grip peak
  have phaseA := planPhaseA_has r k
  dsimp only at phaseA
  unfold expand
  by_cases trim : 0 < r.trimGrip
  · rw [if_pos trim] at phaseA
    obtain ⟨w, done⟩ := planPhaseB_has phaseA (Nat.le_refl _)
    refine ⟨w, done.counts ?_⟩
    have strips : (r.nr - 1 + if k.gminStd ≤ r.trimGrip then 1 else 0) + (if !decide (k.gminStd ≤ r.trimGrip) then 1 else 0) =
        r.nr := by
      by_cases wide : k.gminStd ≤ r.trimGrip <;> simp [wide] <;> omega
    rw [strips]
    simp only [grip, if_pos trim, tail, peak]
  · rw [if_neg trim] at phaseA
    have narrow : ¬ k.gminStd ≤ r.trimGrip := by omega
    obtain ⟨w, done⟩ := planPhaseB_has phaseA (Nat.le_refl _)
    have strips : r.nr - 1 + (if true then 1 else 0) = r.nr := by simp; omega
    rw [strips] at done
    refine ⟨w, ?_⟩
    simp only [grip, if_neg trim, tail, peak, if_neg narrow, Nat.add_zero, PlanCount.plus_zero]
    exact done

/-- A condition counted as R56 does. -/
def ofProp (p : Prop) [Decidable p] : Nat := if p then 1 else 0

theorem gutterCount_eq (gutter : Nat) (first : PlanCount) :
    gutterCount gutter first =
      ⟨first.steps + ofProp (0 < gutter), first.cuts + ofProp (0 < gutter), first.outputs, first.waste + ofProp (0 < gutter)⟩ := by
  unfold gutterCount ofProp
  split <;> rfl

/-- A strip's counts in closed form; without cuts in phase B there is one column, and neither margin. -/
theorem stripCount_eq (r : JobRecord) (k : PlanConsts) (cols : 1 ≤ r.nc) :
    stripCount r k =
      ⟨(if phaseBCuts r then 1 + ofProp (0 < trimOff r) + (r.nc - 1) * (1 + ofProp (0 < r.gw)) else 0) +
          (if r.trimLay = 0 then 1 else if k.gminStd ≤ r.trimLay then 2 else 3),
        ofProp (0 < trimOff r) + (r.nc - 1) * (1 + ofProp (0 < r.gw)) + ofProp (0 < r.trimLay),
        r.nc,
        ofProp (0 < trimOff r) + (r.nc - 1) * ofProp (0 < r.gw) + ofProp (0 < r.trimLay)⟩ := by
  have off : (if 0 < trimOff r then (⟨1, 1, 0, 1⟩ : PlanCount) else ⟨0, 0, 0, 0⟩) =
      ⟨ofProp (0 < trimOff r), ofProp (0 < trimOff r), 0, ofProp (0 < trimOff r)⟩ := by
    unfold ofProp
    split <;> rfl
  have final : finalCount r k =
      ⟨if r.trimLay = 0 then 1 else if k.gminStd ≤ r.trimLay then 2 else 3, ofProp (0 < r.trimLay), 1, ofProp (0 < r.trimLay)⟩ := by
    unfold finalCount ofProp
    rcases Nat.eq_zero_or_pos r.trimLay with h | h
    · simp [h]
    · simp only [h, Nat.ne_of_gt h, if_true, if_false]
      split <;> rfl
  unfold stripCount
  rw [gutterCount_eq, off, final]
  cases cut : phaseBCuts r
  · obtain ⟨⟨noOff, one⟩, noLay⟩ : (trimOff r = 0 ∧ r.nc = 1) ∧ r.trimLay = 0 := by simpa [phaseBCuts] using cut
    simp [noOff, one, noLay, ofProp]
  · have columns : r.nc - 1 + 1 = r.nc := by omega
    ext
    · simp [PlanCount.plus, PlanCount.times]
    · simp [PlanCount.plus, PlanCount.times]
    · simp [PlanCount.plus, PlanCount.times, columns]
    · simp [PlanCount.plus, PlanCount.times]

/-- Settles O22: the counts of the expansion, written out. -/
theorem planTotals : Obligations.PlanTotals := by
  intro r k steps rows cols positive planned one tail grip gl off lay gw peak strip
  have plan : steps = planSteps r k := by
    unfold planResult at planned
    dsimp only at planned
    repeat' split at planned
    case isFalse.isFalse.isFalse.isFalse.isFalse.isFalse => exact (PlanResult.done.inj planned).symm
    all_goals cases planned
  obtain ⟨w, -, -, hpeak, counts⟩ := expand_has r k rows positive
  have tail_ : (if 0 < trimTail r then (⟨1, 1, 0, 1⟩ : PlanCount) else ⟨0, 0, 0, 0⟩) = ⟨tail, tail, 0, tail⟩ := by
    simp only [tail, one]
    split <;> simp [*]
  have grip_ : (if 0 < r.trimGrip then (⟨2, 1, 0, 1⟩ : PlanCount) else ⟨0, 0, 0, 0⟩) = ⟨2 * grip, grip, 0, grip⟩ := by
    simp only [grip, one]
    split <;> simp [*]
  have peak_ : (r.nr - 1 + if k.gminStd ≤ r.trimGrip then 1 else 0) = peak := by simp [peak, one]
  have of_ (p : Prop) [Decidable p] : ofProp p = one (decide p) := by
    unfold ofProp
    split <;> simp [one, *]
  rw [tail_, grip_, peak_, gutterCount_eq, stripCount_eq r k cols] at counts
  rw [peak_] at hpeak
  simp only [of_, PlanCount.plus, PlanCount.times] at counts
  have length : steps.length = (expand r k).count.steps := by simp [plan, planSteps, PlanModel.count]
  have cuts : countCuts steps = (expand r k).count.cuts := by simp [plan, planSteps, PlanModel.count, countCuts]
  have outputs : countOutputs steps = (expand r k).count.outputs := by simp [plan, planSteps, PlanModel.count, countOutputs]
  have waste : countWaste steps = (expand r k).count.waste := by simp [plan, planSteps, PlanModel.count, countWaste]
  rw [length, cuts, outputs, waste, counts]
  refine ⟨?_, ?_, ?_, ?_, hpeak⟩
  · dsimp only [gl, gw, off, strip]
    ring
  · dsimp only [gl, gw, off, lay]
    ring
  · simp
  · dsimp only [gl, gw, off, lay]
    ring

end Sys2Proof.Machine
end

section
/-! Every step of an accepted plan is sound (R45, R53 to R55): the index, the nominal position, the plate mark and the expected
dimensions of a step, as the planner's model writes them. -/
namespace Sys2Proof.Machine

/-- A step as the model writes it: a CUT at an N of at most Gmax, its mark by R53 and N as its expected along; a TAKE of nothing. -/
def CutStep.sound (k : PlanConsts) (t : CutStep) : Prop :=
  match t.action with
  | .cut n _ plate => n ≤ k.gmax ∧ plate = (decide (k.gminNarrow ≤ n) && decide (n < k.gminStd)) ∧ t.expAlong = n
  | .take _ => t.expAlong = 0 ∧ t.expAcross = 0
  | .turn _ | .recall => True

/-- The steps written so far, newest first, are sound and each at its own index. -/
def PlanModel.stepsSound (k : PlanConsts) (m : PlanModel) : Prop :=
  ∀ (i : Nat) (t : CutStep), m.steps.reverse[i]? = some t → t.index = i ∧ t.sound k

/-- A stack that phase B can cut: as wide as the sheet. -/
def ModelStack.wide (r : JobRecord) (x : ModelStack) : Prop := x.across = r.sheetW

/-- The model in good order: the Working Stack within Gmax, the Aside List's stacks as wide as the sheet, the steps sound. -/
structure PlanModel.Sound (r : JobRecord) (k : PlanConsts) (m : PlanModel) : Prop where
  along : ∀ w, m.work = some w → w.along ≤ k.gmax
  aside : ∀ x ∈ m.aside, x.along ≤ k.gmax ∧ x.wide r
  steps : m.stepsSound k

theorem PlanModel.emit_stepsSound {k : PlanConsts} {m : PlanModel} (h : m.stepsSound k) (strip : Nat) (a : StepAction)
    (work : Option ModelStack) (aside : List ModelStack)
    (sound : CutStep.sound k
      ⟨m.steps.length, strip, (work.map ModelStack.along).getD 0, (work.map ModelStack.across).getD 0, a⟩) :
    (m.emit strip a work aside).stepsSound k := by
  intro i t ht
  simp only [PlanModel.emit, List.reverse_cons] at ht
  rcases Nat.lt_trichotomy i m.steps.length with lt | eq | gt
  · rw [List.getElem?_append_left (by simpa using lt)] at ht
    exact h i t ht
  · subst eq
    rw [List.getElem?_append_right (by simp)] at ht
    simp only [List.length_reverse, Nat.sub_self, List.getElem?_cons_zero, Option.some.injEq] at ht
    subst ht
    exact ⟨rfl, sound⟩
  · rw [List.getElem?_eq_none (by simp; omega)] at ht
    cases ht

section
variable {r : JobRecord} {k : PlanConsts} {m : PlanModel} (h : m.Sound r k)
include h

/-! ### The four operations -/

/-- A CUT at a position within Gmax; one to the Aside List is of a stack as wide as the sheet. -/
theorem PlanModel.Sound.cut {n strip : Nat} {d : Disposition} (hn : n ≤ k.gmax)
    (wide : d = .aside → ∀ w, m.work = some w → w.wide r) : (m.cut k n d strip).Sound r k := by
  unfold PlanModel.cut
  split
  · exact h
  · next w hw =>
    refine ⟨?_, ?_, PlanModel.emit_stepsSound h.steps _ _ _ _ ⟨hn, rfl, rfl⟩⟩
    · rintro _ ⟨⟩
      exact hn
    · intro x hx
      simp only [PlanModel.emit] at hx
      split at hx
      · next e =>
        rcases List.mem_cons.1 hx with rfl | hx
        · exact ⟨Nat.le_trans (Nat.sub_le ..) (h.along w hw), wide e w hw⟩
        · exact h.aside x hx
      · exact h.aside x hx

/-- A TURN of a stack whose new along is within Gmax. -/
theorem PlanModel.Sound.turn {t : TurnKind} {strip : Nat}
    (fits : ∀ w, m.work = some w → (if t.quarter then w.across else w.along) ≤ k.gmax) : (m.turn t strip).Sound r k := by
  unfold PlanModel.turn
  split
  · exact h
  · next w hw =>
    refine ⟨?_, h.aside, PlanModel.emit_stepsSound h.steps _ _ _ _ trivial⟩
    rintro _ ⟨⟩
    exact fits w hw

theorem PlanModel.Sound.take {d : TakeDisposition} : (m.take d).Sound r k := by
  unfold PlanModel.take
  split
  · exact h
  · exact ⟨by rintro _ ⟨⟩, h.aside, PlanModel.emit_stepsSound h.steps _ _ _ _ ⟨rfl, rfl⟩⟩

theorem PlanModel.Sound.recall : m.recall.Sound r k ∧ (m.aside ≠ [] → ∀ w, m.recall.work = some w → w.wide r) := by
  unfold PlanModel.recall
  split
  · next none_ => exact ⟨h, fun some_ => absurd none_ some_⟩
  · next top rest ha =>
    have ⟨along, wide⟩ := h.aside top (by simp [ha])
    refine ⟨⟨?_, fun x hx => h.aside x (by simp [ha, show x ∈ rest from hx]), PlanModel.emit_stepsSound h.steps _ _ _ _ trivial⟩, ?_⟩
    · rintro _ ⟨⟩
      exact along
    · rintro - _ ⟨⟩
      exact wide

/-- A cut that takes something off the front. -/
theorem PlanModel.Sound.cut_pos {x strip : Nat} {d : Disposition} (wide : d = .aside → ∀ w, m.work = some w → w.wide r) :
    (m.cut k (m.pos - x) d strip).Sound r k := by
  cases hw : m.work with
  | none =>
    have stays : m.cut k (m.pos - x) d strip = m := by simp [PlanModel.cut, hw]
    exact stays.symm ▸ h
  | some w =>
    have pos : m.pos = w.along := by simp [PlanModel.pos, hw]
    exact h.cut (pos ▸ Nat.le_trans (Nat.sub_le ..) (h.along w hw)) wide

end

/-! ### The two phases -/

/-- The Working Stack is as wide as the sheet. -/
def PlanModel.WorkWide (r : JobRecord) (m : PlanModel) : Prop := ∀ w, m.work = some w → w.wide r

section
variable {r : JobRecord} {k : PlanConsts} {m : PlanModel}

theorem PlanModel.WorkWide.cut (h : m.WorkWide r) {n strip : Nat} {d : Disposition} : (m.cut k n d strip).WorkWide r := by
  unfold PlanModel.cut
  split
  · exact h
  · next w hw =>
    rintro _ ⟨⟩
    exact h w hw

theorem PlanModel.WorkWide.turnHalf (h : m.WorkWide r) {strip : Nat} : (m.turn .half strip).WorkWide r := by
  unfold PlanModel.turn
  split
  · exact h
  · next w hw =>
    rintro _ ⟨⟩
    exact h w hw

theorem PlanModel.take_work {d : TakeDisposition} : (m.take d).work = none := by
  unfold PlanModel.take
  split
  · assumption
  · rfl

theorem PlanModel.WorkWide.of_none (h : m.work = none) : m.WorkWide r := by
  intro w hw
  rw [h] at hw
  cases hw

theorem PlanModel.Sound.turnHalf (h : m.Sound r k) {strip : Nat} : (m.turn .half strip).Sound r k := h.turn h.along

theorem planRows_sound (h : m.Sound r k) (wide : m.WorkWide r) (rows : Nat) :
    (planRows r k m rows).Sound r k ∧ (planRows r k m rows).WorkWide r := by
  induction rows with
  | zero => exact ⟨h, wide⟩
  | succ i ih =>
    obtain ⟨ih, wide⟩ := ih
    have row : PlanModel.Sound r k (PlanModel.cut k (planRows r k m i) ((planRows r k m i).pos - r.pl) .aside (i + 1)) :=
      ih.cut_pos fun _ => wide
    unfold planRows
    dsimp only
    split
    · exact ⟨row.cut_pos (by simp), wide.cut.cut⟩
    · exact ⟨row, wide.cut⟩

/-- Phase A leaves stacks as wide as the sheet; its cuts and its lift lie within Gmax as the sheet's length does. -/
theorem planPhaseA_sound (sheet : r.sheetL ≤ k.gmax) (grip : r.trimGrip ≤ r.sheetL) (row : r.pl ≤ r.sheetL) :
    (planPhaseA r k).Sound r k ∧ (planPhaseA r k).WorkWide r := by
  have start : (planStartModel r).Sound r k :=
    ⟨by rintro _ ⟨⟩; exact sheet, by simp [planStartModel], by simp [PlanModel.stepsSound, planStartModel]⟩
  have startWide : (planStartModel r).WorkWide r := by rintro _ ⟨⟩; rfl
  have trimmed : PlanModel.Sound r k
        (if 0 < trimTail r then (planStartModel r).wasteA r k (trimTail r).toNat else planStartModel r) ∧
      PlanModel.WorkWide r
        (if 0 < trimTail r then (planStartModel r).wasteA r k (trimTail r).toNat else planStartModel r) := by
    split
    · exact ⟨start.cut_pos (by simp), startWide.cut⟩
    · exact ⟨start, startWide⟩
  obtain ⟨rows, rowsWide⟩ := planRows_sound trimmed.1 trimmed.2 (r.nr - 1)
  unfold planPhaseA planFinalA
  dsimp only
  split
  · exact ⟨rows, rowsWide⟩
  · split
    · exact ⟨(rows.cut (Nat.le_trans grip sheet) fun _ => rowsWide).take, .of_none PlanModel.take_work⟩
    · exact ⟨rows.turnHalf.cut (Nat.le_trans row sheet) (by simp), rowsWide.turnHalf.cut⟩

theorem planColumns_sound (h : m.Sound r k) (strip cols : Nat) : (planColumns r k strip m cols).Sound r k := by
  induction cols with
  | zero => exact h
  | succ j ih =>
    have col : PlanModel.Sound r k
        (PlanModel.cut k (planColumns r k strip m j) ((planColumns r k strip m j).pos - r.pw) .output strip) :=
      ih.cut_pos (by simp)
    unfold planColumns
    dsimp only
    split
    · exact col.cut_pos (by simp)
    · exact col

theorem planFinalB_sound (h : m.Sound r k) (lay : r.trimLay ≤ k.gmax) (col : r.pw ≤ k.gmax) (strip : Nat) :
    (planFinalB r k strip m).Sound r k ∧ (planFinalB r k strip m).work = none := by
  unfold planFinalB
  split
  · exact ⟨h.take, PlanModel.take_work⟩
  · split
    · exact ⟨(h.cut lay (by simp)).take, PlanModel.take_work⟩
    · exact ⟨(h.turnHalf.cut col (by simp)).take, PlanModel.take_work⟩

/-- The turn that brings LAY to the rear is a quarter turn. -/
theorem layTurn_quarter (o : Orientation) : (layTurn o).quarter = true := by
  unfold layTurn
  split <;> rfl

/-- Phase B of a strip as wide as the sheet: after the quarter turn its along is the sheet's width. -/
theorem planStrip_sound (h : m.Sound r k) (wide : m.WorkWide r)
    (sheet : phaseBCuts r = true → r.sheetW ≤ k.gmax) (lay : r.trimLay ≤ r.sheetW) (col : r.pw ≤ r.sheetW) (strip : Nat) :
    (planStrip r k strip m).Sound r k ∧ (planStrip r k strip m).work = none := by
  unfold planStrip
  split
  · next none_ => exact ⟨h, none_⟩
  · next w hw =>
    split
    · next cuts =>
      have fits : r.sheetW ≤ k.gmax := sheet cuts
      have turned : (m.turn (layTurn w.orient) strip).Sound r k := by
        refine h.turn fun w' hw' => ?_
        rw [layTurn_quarter, if_pos rfl, wide w' hw']
        exact fits
      have trimmed : PlanModel.Sound r k
          (if 0 < trimOff r then
            (m.turn (layTurn w.orient) strip).cut k ((m.turn (layTurn w.orient) strip).pos - (trimOff r).toNat) .waste strip
          else m.turn (layTurn w.orient) strip) := by
        split
        · exact turned.cut_pos (by simp)
        · exact turned
      exact planFinalB_sound (planColumns_sound trimmed strip (r.nc - 1)) (Nat.le_trans lay fits) (Nat.le_trans col fits) strip
    · exact ⟨h.take, PlanModel.take_work⟩

theorem planRecalls_sound (sheet : phaseBCuts r = true → r.sheetW ≤ k.gmax) (lay : r.trimLay ≤ r.sheetW)
    (col : r.pw ≤ r.sheetW) (strips : Nat) (m : PlanModel) (h : m.Sound r k) (wide : m.WorkWide r) :
    (planRecalls r k m strips).Sound r k := by
  induction strips generalizing m with
  | zero => exact h
  | succ i ih =>
    have recalledWide : m.recall.WorkWide r := by
      by_cases empty : m.aside = []
      · have stays : m.recall = m := by simp [PlanModel.recall, empty]
        exact stays.symm ▸ wide
      · exact h.recall.2 empty
    obtain ⟨cut, gone⟩ := planStrip_sound h.recall.1 recalledWide sheet lay col m.recall.strip
    exact ih _ cut (.of_none gone)

end

/-- Both remainders at least 0: the final edges and one row and one column lie in the sheet. -/
theorem fits_of_not_noFit {r : JobRecord} (rows : 1 ≤ r.nr) (cols : 1 ≤ r.nc) (fit : noFit r = false) :
    (r.trimGrip ≤ r.sheetL ∧ r.pl ≤ r.sheetL) ∧ r.trimLay ≤ r.sheetW ∧ r.pw ≤ r.sheetW := by
  have ⟨tail, off⟩ : 0 ≤ trimTail r ∧ 0 ≤ trimOff r := by simpa [noFit] using fit
  have one (n x g : Nat) (hn : 1 ≤ n) : (x : Int) ≤ (n : Int) * x + ((n : Int) - 1) * g := by
    obtain ⟨i, rfl⟩ := Nat.exists_eq_add_of_le' hn
    push_cast
    have : (0 : Int) ≤ i * x := by positivity
    have : (0 : Int) ≤ i * g := by positivity
    linarith
  have := one r.nr r.pl r.gl rows
  have := one r.nc r.pw r.gw cols
  unfold trimTail at tail
  unfold trimOff at off
  omega

/-- The expansion of a layout that passes the checks of R44 is sound. -/
theorem expand_sound {r : JobRecord} {k : PlanConsts} (rows : 1 ≤ r.nr) (cols : 1 ≤ r.nc) (size : oversize r k = false)
    (fit : noFit r = false) : (expand r k).Sound r k := by
  obtain ⟨⟨grip, row⟩, lay, col⟩ := fits_of_not_noFit rows cols fit
  have ⟨⟨sheetL, _⟩, sheetW⟩ : (r.sheetL ≤ k.gmax ∧ r.sheetW ≤ k.knife) ∧
      (phaseBCuts r = true → r.sheetW ≤ k.gmax ∧ r.pl ≤ k.knife) := by simpa [oversize] using size
  obtain ⟨phaseA, wide⟩ := planPhaseA_sound sheetL grip row
  obtain ⟨strip, gone⟩ := planStrip_sound phaseA wide (fun cuts => (sheetW cuts).1) lay col r.nr
  exact planRecalls_sound (fun cuts => (sheetW cuts).1) lay col _ _ strip (.of_none gone)

/-- Settles O23: the expansion is sound, and check 4 of R44 bounds every N from below. -/
theorem planStepsAreSound : Obligations.PlanStepsAreSound := by
  intro r k steps rows cols planned
  unfold planResult at planned
  dsimp only at planned
  repeat' split at planned
  case isFalse.isFalse.isFalse.isFalse.isFalse.isFalse size fit _ narrow _ long =>
    cases PlanResult.done.inj planned
    refine ⟨Nat.le_of_not_lt long, fun i t ht => ?_⟩
    have ⟨index, sound⟩ := (expand_sound rows cols (by simpa using size) (by simpa using fit)).steps i t ht
    refine ⟨index, ?_⟩
    have wide : ∀ n d p, t.action = .cut n d p → k.gminNarrow ≤ n := by
      intro n d p ha
      refine Nat.le_of_not_lt fun lt => narrow ?_
      exact List.any_eq_true.2 ⟨t, List.mem_of_getElem? ht, by simp [ha, lt]⟩
    unfold CutStep.sound at sound
    cases ha : t.action with
    | cut n d p =>
      rw [ha] at sound
      obtain ⟨gmax, plate, along⟩ := sound
      have narrow_ := wide n d p ha
      exact ⟨narrow_, gmax, by simp [plate, narrow_], along⟩
    | take d =>
      rw [ha] at sound
      exact sound
    | _ => trivial
  all_goals cases planned

end Sys2Proof.Machine
end

section
/-! Which job planning takes, the Turner calls and a displacement lets go (R26, R28, R29): the best of the eligible entries by
priority and place. -/
namespace Sys2Proof.Machine

/-! ### The best element of a list -/

/-- The better of two elements where `R b e` says that the later `e` takes the place of `b`. -/
def preferBy {α : Type} (R : α → α → Prop) [DecidableRel R] (best : Option α) (e : α) : Option α :=
  match best with
  | none => some e
  | some b => if R b e then some e else some b

/-- The element `e` at place `i` is the chosen one among those of `es` with `p`: it takes the place of each before it, and
none behind takes its place. -/
structure ChosenBy {α : Type} (R : α → α → Prop) (p : α → Bool) (es : List α) (e : α) (i : Nat) : Prop where
  place : es[i]? = some e
  has : p e = true
  before : ∀ (j : Nat) (x : α), es[j]? = some x → p x = true → j < i → R x e
  behind : ∀ (j : Nat) (x : α), es[j]? = some x → p x = true → i < j → ¬ R e x

section
variable {α : Type} {R : α → α → Prop} {p : α → Bool} {es : List α}

theorem ChosenBy.append_keep {e x : α} {i : Nat} (h : ChosenBy R p es e i) (keeps : p x = true → ¬ R e x) :
    ChosenBy R p (es ++ [x]) e i := by
  have inside : i < es.length := (List.getElem?_eq_some_iff.1 h.place).1
  refine ⟨by rw [List.getElem?_append_left inside]; exact h.place, h.has, fun j y hy py lt => ?_, fun j y hy py lt => ?_⟩
  · exact h.before j y (by rwa [List.getElem?_append_left (by omega)] at hy) py lt
  · rcases Nat.lt_or_ge j es.length with in_ | out
    · exact h.behind j y (by rwa [List.getElem?_append_left in_] at hy) py lt
    · rw [List.getElem?_append_right out, List.getElem?_singleton] at hy
      split at hy <;> cases hy
      exact keeps py

/-- Each fold step keeps the chosen element, `R` being transitive and total enough. -/
theorem foldl_preferBy [DecidableRel R] (trans : ∀ x y z, R x y → R y z → R x z) (total : ∀ x y z, ¬ R y x → R y z → R x z) :
    match (es.filter p).foldl (preferBy R) none with
    | none => ∀ e ∈ es, p e = false
    | some e => ∃ i, ChosenBy R p es e i := by
  induction es using List.reverseRecOn with
  | nil => simp
  | append_singleton es x ih =>
    rw [List.filter_append, List.foldl_append]
    cases px : p x with
    | false =>
      rw [List.filter_cons_of_neg (by simp [px]), List.filter_nil, List.foldl_nil]
      cases chosen : (es.filter p).foldl (preferBy R) none with
      | none =>
        rw [chosen] at ih
        intro e he
        rcases List.mem_append.1 he with old | new
        · exact ih e old
        · exact List.mem_singleton.1 new ▸ px
      | some e =>
        rw [chosen] at ih
        obtain ⟨i, ih⟩ := ih
        exact ⟨i, ih.append_keep (by simp [px])⟩
    | true =>
      rw [List.filter_cons_of_pos px, List.filter_nil, List.foldl_cons, List.foldl_nil]
      have last : (es ++ [x])[es.length]? = some x := by simp
      cases chosen : (es.filter p).foldl (preferBy R) none with
      | none =>
        rw [chosen] at ih
        refine ⟨es.length, last, px, fun j y hy py lt => ?_, fun j y hy py lt => ?_⟩
        · rw [List.getElem?_append_left lt] at hy
          rw [ih y (List.mem_of_getElem? hy)] at py
          cases py
        · rw [List.getElem?_eq_none (by simp; omega)] at hy
          cases hy
      | some e =>
        rw [chosen] at ih
        obtain ⟨i, ih⟩ := ih
        simp only [preferBy]
        by_cases better : R e x
        · rw [if_pos better]
          refine ⟨es.length, last, px, fun j y hy py lt => ?_, fun j y hy py lt => ?_⟩
          · rw [List.getElem?_append_left lt] at hy
            rcases Nat.lt_trichotomy j i with before | rfl | behind
            · exact trans y e x (ih.before j y hy py before) better
            · rw [ih.place] at hy
              cases hy
              exact better
            · exact total y e x (ih.behind j y hy py behind) better
          · rw [List.getElem?_eq_none (by simp; omega)] at hy
            cases hy
        · rw [if_neg better]
          exact ⟨i, ih.append_keep fun _ => better⟩

end

theorem highest_eq (es : List JobEntry) :
    highest es = es.foldl (preferBy fun b e => b.record.priority < e.record.priority) none := by
  have same : preferHigh = preferBy fun b e => b.record.priority < e.record.priority := by
    funext best e
    cases best <;> rfl
  rw [highest, same]

theorem lowest_eq (es : List JobEntry) :
    lowest es = es.foldl (preferBy fun b e => e.record.priority ≤ b.record.priority) none := by
  have same : preferLow = preferBy fun b e => e.record.priority ≤ b.record.priority := by
    funext best e
    cases best <;> rfl
  rw [lowest, same]

section
variable {p : JobEntry → Bool} {es : List JobEntry} {e : JobEntry}

theorem highest_none : highest (es.filter p) = none ↔ ∀ e ∈ es, p e = false := by
  refine ⟨fun h => ?_, fun h => by rw [List.filter_eq_nil_iff.2 (by simpa using h)]; rfl⟩
  have chosen := foldl_preferBy (R := fun b e => b.record.priority < e.record.priority) (p := p) (es := es)
    (fun _ _ _ => Nat.lt_trans) (fun _ _ _ => by omega)
  rw [← highest_eq, h] at chosen
  exact chosen

theorem highest_some (h : highest (es.filter p) = some e) :
    ∃ i, es[i]? = some e ∧ p e = true ∧ ∀ (j : Nat) (x : JobEntry), es[j]? = some x → p x = true →
      x.record.priority < e.record.priority ∨ (x.record.priority = e.record.priority ∧ i ≤ j) := by
  have chosen := foldl_preferBy (R := fun b e => b.record.priority < e.record.priority) (p := p) (es := es)
    (fun _ _ _ => Nat.lt_trans) (fun _ _ _ => by omega)
  rw [← highest_eq, h] at chosen
  obtain ⟨i, place, has, before, behind⟩ := chosen
  refine ⟨i, place, has, fun j x hx px => ?_⟩
  rcases Nat.lt_trichotomy j i with lt | rfl | gt
  · exact .inl (before j x hx px lt)
  · rw [place] at hx
    cases hx
    exact .inr ⟨rfl, Nat.le_refl _⟩
  · have := behind j x hx px gt
    omega

theorem lowest_none : lowest (es.filter p) = none ↔ ∀ e ∈ es, p e = false := by
  refine ⟨fun h => ?_, fun h => by rw [List.filter_eq_nil_iff.2 (by simpa using h)]; rfl⟩
  have chosen := foldl_preferBy (R := fun b e => e.record.priority ≤ b.record.priority) (p := p) (es := es)
    (fun _ _ _ => by omega) (fun _ _ _ => by omega)
  rw [← lowest_eq, h] at chosen
  exact chosen

theorem lowest_some (h : lowest (es.filter p) = some e) :
    ∃ i, es[i]? = some e ∧ p e = true ∧ ∀ (j : Nat) (x : JobEntry), es[j]? = some x → p x = true →
      e.record.priority < x.record.priority ∨ (e.record.priority = x.record.priority ∧ j ≤ i) := by
  have chosen := foldl_preferBy (R := fun b e => e.record.priority ≤ b.record.priority) (p := p) (es := es)
    (fun _ _ _ => by omega) (fun _ _ _ => by omega)
  rw [← lowest_eq, h] at chosen
  obtain ⟨i, place, has, before, behind⟩ := chosen
  refine ⟨i, place, has, fun j x hx px => ?_⟩
  rcases Nat.lt_trichotomy j i with lt | rfl | gt
  · have := before j x hx px lt
    omega
  · rw [place] at hx
    cases hx
    exact .inr ⟨rfl, Nat.le_refl _⟩
  · have := behind j x hx px gt
    omega

end

/-! ### Planning starts -/

theorem State.freeBank_none {s : State} : s.freeBank = none ↔ s.bankA.state ≠ .empty ∧ s.bankB.state ≠ .empty := by
  unfold State.freeBank
  split
  · simp [*]
  · split <;> simp [*]

theorem State.freeBank_some {s : State} {bk : BankId} (h : s.freeBank = some bk) :
    bk = if s.bankA.state = .empty then .a else .b := by
  unfold State.freeBank at h
  split at h
  · cases h
    rw [if_pos ‹_›]
  · split at h <;> cases h
    rw [if_neg ‹_›]

/-- Two changes of the entries of one number, the first of which keeps the number, as one. -/
theorem map_onNumber_twice (es : List JobEntry) (n : Nat) (f g : JobEntry → JobEntry)
    (keeps : ∀ e, (f e).record.number = e.record.number) :
    ((es.map fun e => if e.record.number = n then f e else e).map fun e => if e.record.number = n then g e else e) =
      es.map fun e => if e.record.number = n then g (f e) else e := by
  rw [List.map_map]
  refine List.map_congr_left fun e _ => ?_
  simp only [Function.comp]
  by_cases h : e.record.number = n
  · simp [h, keeps]
  · simp [h]

/-- Settles O25: the choice is the fold's, and the start writes the planner, one bank and the entry. -/
theorem planningStartsWithTheBestJob : Obligations.PlanningStartsWithTheBestJob := by
  refine ⟨takenAt_of_place rfl, fun s => ⟨?_, fun t h => ?_⟩⟩
  · have next : s.nextToPlan = none ↔ ∀ e ∈ s.jobs, s.eligible e = false := highest_none
    rw [← next, ← State.freeBank_none]
    unfold planStart
    cases s.planner <;> cases s.freeBank <;> cases s.nextToPlan <;> simp
  · obtain ⟨bk, e, -, free, next, rfl⟩ := planStart_cases h
    obtain ⟨i, place, has, best⟩ := highest_some next
    have bank := State.freeBank_some free
    refine ⟨e, i, place, has, best, ?_⟩
    have jobs : (s.startPlan e bk).jobs =
        s.jobs.map fun x => if x.record.number = e.record.number then { x with state := .planning, bank := some bk } else x := by
      refine Eq.trans ?_ (map_onNumber_twice s.jobs e.record.number (fun x => { x with bank := some bk })
        (fun x => { x with state := .planning }) fun _ => rfl)
      cases bk <;> rfl
    have link : (s.startPlan e bk).link = s.link.offer (.job e.record.number .planning .none) := by cases bk <;> rfl
    rw [jobs, link, ← bank]
    refine ⟨?_, by cases bk <;> rfl, ?_, rfl, rfl⟩
    · cases bk <;> simp [SameBut, State.startPlan, State.moveJob, State.onEntry, State.notify, State.setBank]
    · split at bank
      · next a =>
        rw [if_pos a, bank]
        exact ⟨rfl, rfl⟩
      · next a =>
        rw [if_neg a, bank]
        exact ⟨rfl, rfl⟩

/-! ### Displacement, the call, the end of a job -/

theorem State.displace_effect (s : State) (w : JobEntry) :
    SameBut [.link, .jobs, .bankA, .bankB, .infeed] s (s.displace w) ∧
      (s.displace w).jobs =
        (s.jobs.map fun x =>
          if x.record.number = w.record.number then { x with state := .queued, bank := none } else x) ∧
      (s.displace w).bankA = (if w.bank = some .a then Bank.cleared else s.bankA) ∧
      (s.displace w).bankB = (if w.bank = some .b then Bank.cleared else s.bankB) ∧
      (s.displace w).infeed =
        (if w.state = .called then { s.infeed with turner := .empty, called := none } else s.infeed) ∧
      (s.displace w).link = s.link.offer (.job w.record.number .queued .displaced) := by
  have jobs := map_onNumber_twice s.jobs w.record.number (fun x => { x with bank := none })
    (fun x => { x with state := .queued }) fun _ => rfl
  unfold State.displace
  rw [← jobs]
  rcases w.bank with _ | _ | _ <;> by_cases called : w.state = .called <;>
    simp [called, SameBut, State.emptyBank, State.setBank, State.withdrawCall, State.onEntry, State.moveJob, State.notify]

/-- No displacement is due: a bank is EMPTY, or no eligible job stands above a job that could give way. -/
theorem displacement_none {s : State} :
    displacement s = none ↔
      s.bankA.state = .empty ∨ s.bankB.state = .empty ∨
        ∀ w ∈ s.jobs, (decide (w.state = .planned) || decide (w.state = .called)) = true →
          ∀ e ∈ s.jobs, s.eligible e = true → e.record.priority ≤ w.record.priority := by
  unfold displacement
  split
  · next w e free weak next =>
    have ⟨emptyA, emptyB⟩ := State.freeBank_none.1 free
    obtain ⟨i, place, has, least⟩ := lowest_some weak
    obtain ⟨j, place', has', best⟩ := highest_some next
    simp only [emptyA, emptyB, false_or]
    split
    · next lt =>
      simp only [reduceCtorEq, false_iff]
      exact fun all => Nat.not_lt.2 (all w (List.mem_of_getElem? place) has e (List.mem_of_getElem? place') has') lt
    · next nlt =>
      refine iff_of_true rfl fun w' hw' gives e' he' el => ?_
      obtain ⟨m, hm⟩ := List.getElem?_of_mem hw'
      obtain ⟨n, hn⟩ := List.getElem?_of_mem he'
      have := least m w' hm gives
      have := best n e' hn el
      omega
  · next others =>
    refine iff_of_true rfl ?_
    by_cases bank : s.freeBank = none
    · cases weak : s.weakest with
      | none =>
        refine .inr (.inr fun w hw gives => ?_)
        rw [lowest_none.1 weak w hw] at gives
        cases gives
      | some w =>
        cases next : s.nextToPlan with
        | none =>
          refine .inr (.inr fun _ _ _ e he el => ?_)
          rw [highest_none.1 next e he] at el
          cases el
        | some e => exact absurd next (others w e bank weak)
    · by_cases a : s.bankA.state = .empty
      · exact .inl a
      · exact .inr (.inl (Decidable.not_not.1 fun b => bank (State.freeBank_none.2 ⟨a, b⟩)))

/-- Settles O26: the choices are the folds', and each effect is written out; a job's end is that of the table's own lemmas. -/
theorem jobsAreDisplacedCalledAndDone : Obligations.JobsAreDisplacedCalledAndDone := by
  refine ⟨takenAt_of_place rfl, takenAt_of_place rfl, fun s => ?_⟩
  intro gives
  have gives_ (e : JobEntry) : (decide (e.state = .planned) || decide (e.state = .called)) = true ↔ gives e := by simp [gives]
  refine ⟨?_, fun t h => ?_, ?_, fun t h => ?_, fun n k => ?_, fun l hl => s.endLift_ends hl⟩
  · exact displacement_none.trans (by simp only [gives_])
  · obtain ⟨w, -, -, weak, -, -, rfl⟩ := displacement_cases h
    obtain ⟨i, place, has, least⟩ := lowest_some weak
    exact ⟨w, i, place, (gives_ w).1 has, fun j x hx gx => least j x hx ((gives_ x).2 gx), s.displace_effect w⟩
  · have next : s.nextToCall = none ↔ ∀ e ∈ s.jobs, decide (e.state = .planned) = false := highest_none
    simp only [decide_eq_false_iff_not] at next
    refine Iff.trans ?_ (or_congr_right next)
    unfold turnerCall
    cases s.infeed.turner <;> cases s.nextToCall <;> simp
  · obtain ⟨e, -, next, rfl⟩ := turnerCall_cases h
    obtain ⟨i, place, has, best⟩ := highest_some next
    refine ⟨e, i, place, of_decide_eq_true has, fun j x hx px => best j x hx (decide_eq_true px), ?_, rfl, rfl, rfl⟩
    simp [SameBut, State.callJob, State.moveJob, State.onEntry, State.notify, State.await]
  · exact ⟨by simp [SameBut, State.setFinal], s.figuresTaken n (fun _ => rfl) fun _ => rfl⟩

end Sys2Proof.Machine
end

section
/-! A move's start (R86 to R90) and the ask of a step's move (R64, R66, R71). -/
namespace Sys2Proof.Machine

/-! ### The target -/

theorem cutTarget_limited (c : Consts) (plate : Bool) (n h k : Nat) :
    (cutTarget c plate n h k).2 = true ↔
      (c.gmax : Int) < n + drawOffset c k h + c.kc ∨ (n : Int) + drawOffset c k h + c.kc < gminEff c plate := by
  simp only [cutTarget]
  split
  · simp [*]
  · split <;> simp [*]

/-- Both kinds of target are bounded to Gmin_eff and Gmax. -/
theorem targetOf_bounded {c : Consts} {plate : Bool} (low : gminEff c plate ≤ c.gmax) (req : MoveReq) :
    (gminEff c plate : Int) ≤ (targetOf c plate req).1 ∧ (targetOf c plate req).1 ≤ c.gmax := by
  cases req with
  | cut n h k =>
    rw [targetOf, cutTarget_fst]
    split
    · omega
    · split <;> omega
  | park pos =>
    simp only [targetOf, parkTarget]
    split
    · omega
    · split <;> omega

/-! ### The travel -/

/-- What a start leaves of the gauge as it was. -/
theorem Gauge.travel_keeps (g : Gauge) (m : Move) (paused : Bool) :
    (g.travel m paused).position = g.position ∧ (g.travel m paused).valid = g.valid ∧
      (g.travel m paused).gminStd = g.gminStd ∧ (g.travel m paused).corrective = g.corrective ∧
      (g.travel m paused).pendingMove = g.pendingMove := by
  simp only [Gauge.travel]
  split
  · exact ⟨rfl, rfl, rfl, rfl, rfl⟩
  · split <;> exact ⟨rfl, rfl, rfl, rfl, rfl⟩

theorem Gauge.travel_behind {g : Gauge} {m : Move} (paused : Bool) (behind : g.position < m.target) :
    (g.travel m paused).phase = some .overshoot ∧ (g.travel m paused).state = if paused then .paused else .moving := by
  simp only [Gauge.travel, if_pos behind]
  exact ⟨rfl, rfl⟩

theorem Gauge.travel_front {g : Gauge} {m : Move} (paused : Bool) (front : m.target < g.position) :
    (g.travel m paused).phase = some .approach ∧ (g.travel m paused).state = if paused then .paused else .moving := by
  simp only [Gauge.travel, if_neg (Int.not_lt.2 (Int.le_of_lt front)), if_pos front]
  exact ⟨rfl, rfl⟩

theorem Gauge.travel_there {g : Gauge} {m : Move} (paused : Bool) (there : m.target = g.position) :
    (g.travel m paused).state = .settling ∧ (g.travel m paused).settleTimer = Timer.start m.settle := by
  simp only [Gauge.travel, there, lt_irrefl, if_false]
  exact ⟨rfl, rfl⟩

/-- The part of O28 on a move's start. -/
theorem State.startMove_starts (s : State) (req : MoveReq) :
    let c : Consts := s.store.consts
    let low : Int := if s.on .plateFitted then c.gminNarrow else c.gminStd
    let g : Gauge := (s.startMove req).gauge
    ∃ m : Move, g.move = some m ∧ SameBut [.gauge] s (s.startMove req) ∧ g.position = s.gauge.position ∧
      g.valid = s.gauge.valid ∧ g.gminStd = c.gminStd ∧ g.corrective = 0 ∧ g.pendingMove = none ∧
      (m.req, m.backlash, m.gmax, m.wPos, m.settle) = (some req, c.backlash, c.gmax, c.wPos, c.settle) ∧
      (low ≤ c.gmax → low ≤ m.target ∧ m.target ≤ c.gmax) ∧
      (match req with
        | .cut n h k =>
          let t : Int := (n : Int) + ((k * min h c.hmax + 500) / 1000 : Nat) + c.kc
          m.target = (if (c.gmax : Int) < t then (c.gmax : Int) else if t < low then low else t) ∧
            (m.limited = true ↔ (c.gmax : Int) < t ∨ t < low)
        | .park pos =>
          m.target = (if (c.gmax : Int) < pos then (c.gmax : Int) else if (pos : Int) < low then low else pos) ∧
            m.limited = false) ∧
      (s.gauge.position < m.target →
        m.overshoot = some (min (m.target + c.backlash) c.gmax) ∧ g.phase = some .overshoot) ∧
      (m.target < s.gauge.position → m.overshoot = none ∧ g.phase = some .approach) ∧
      (m.target ≠ s.gauge.position →
        g.state = if s.on .curtain || s.gauge.state = .paused then .paused else .moving) ∧
      (m.target = s.gauge.position →
        m.overshoot = none ∧ g.state = .settling ∧ g.settleTimer = ⟨true, 0, c.settle⟩) := by
  intro c low g
  have lowEq : low = (gminEff c (s.on .plateFitted) : Int) := by
    unfold low gminEff
    split <;> rfl
  let m : Move := moveOf c (s.on .plateFitted) s.gauge.position req
  let start : Gauge := { s.gauge with corrective := 0, pendingMove := none, gminStd := c.gminStd }
  let paused : Bool := s.on .curtain || s.gauge.state = .paused
  have travelled : g = start.travel m paused := rfl
  obtain ⟨position, valid, gminStd, corrective, pending⟩ := Gauge.travel_keeps start m paused
  have noOvershoot (h : ¬ s.gauge.position < m.target) : m.overshoot = none := if_neg h
  have away (h : m.target ≠ s.gauge.position) : g.state = if paused then .paused else .moving := by
    rw [travelled]
    rcases lt_or_gt_of_ne h with front | behind
    · exact (Gauge.travel_front (g := start) paused front).2
    · exact (Gauge.travel_behind (g := start) paused behind).2
  refine ⟨m, s.startMove_move req, s.startMove_sameBut req, position, valid, gminStd, corrective, pending, rfl, ?bounds, ?target,
    ?behind, ?front, away, ?there⟩
  case bounds =>
    rw [lowEq]
    exact fun h => targetOf_bounded (Int.ofNat_le.1 h) req
  case target =>
    rw [lowEq]
    cases req with
    | cut n h k => exact ⟨cutTarget_fst .., cutTarget_limited ..⟩
    | park pos => exact ⟨by simp [m, moveOf, targetOf, parkTarget], rfl⟩
  case behind => exact fun h => ⟨if_pos h, travelled ▸ (Gauge.travel_behind (g := start) paused h).1⟩
  case front =>
    exact fun h => ⟨noOvershoot (Int.not_lt.2 (Int.le_of_lt h)), travelled ▸ (Gauge.travel_front (g := start) paused h).1⟩
  case there =>
    exact fun h => ⟨noOvershoot (by omega), travelled ▸ Gauge.travel_there (g := start) paused h⟩

/-! ### The ask -/

theorem askStep_none {s : State}
    (h : s.runner.state ≠ .running ∨ s.runner.asked ≠ none ∨ s.stop = true ∨ s.guillotineHalt = true ∨
      s.gauge.state = .faulted ∨ (s.runner.phase ≠ some .positioning ∧ s.runner.phase ≠ some .parking)) :
    askStep s = none := by
  unfold askStep
  split
  · next may =>
    have ⟨⟨running, unasked⟩, ⟨stop, halt⟩, standing⟩ : (s.runner.state = .running ∧ s.runner.asked = none) ∧
        (s.stop = false ∧ s.guillotineHalt = false) ∧ s.gauge.state ≠ .faulted := by simpa [State.mayAsk] using may
    obtain ⟨positioning, parking⟩ : s.runner.phase ≠ some .positioning ∧ s.runner.phase ≠ some .parking := by
      simpa [running, unasked, stop, halt, standing] using h
    have nothing (t : CutStep) : s.stepMove t = none := by
      unfold State.stepMove
      split <;> simp_all
    cases step : s.theStep with
    | none => rfl
    | some t => simp [nothing]
  · rfl

/-- The ask of a move that the step's phase wants. -/
theorem askStep_asks {s : State} {t : CutStep} {req : MoveReq} (running : s.runner.state = .running)
    (unasked : s.runner.asked = none) (stop : s.stop = false) (halt : s.guillotineHalt = false)
    (standing : s.gauge.state ≠ .faulted) (step : s.theStep = some t) (move : s.stepMove t = some req) :
    ∃ u : State, askStep s = some u ∧ SameBut [.runner, .gauge] s u ∧
      u.runner = { s.runner with asked := some .step } ∧ MoveAsked s u req := by
  refine ⟨(s.setRunner { s.runner with asked := some .step }).askMove req, ?_, by simp [SameBut], by simp,
    State.askMove_asked (s.setRunner { s.runner with asked := some .step }) req standing⟩
  unfold askStep
  simp [running, unasked, State.mayAsk, stop, halt, standing, step, move]

/-- Settles O28: the target and the travel at a start, and the one ask of a step. -/
theorem moveTargets : Obligations.MoveTargets := by
  refine ⟨fun s req => s.startMove_starts req, takenAt_of_place rfl, fun s => ⟨askStep_none, ?_⟩⟩
  intro t l running unasked stop halt standing step lift asks
  have ask {req : MoveReq} (move : s.stepMove t = some req) : asks req :=
    askStep_asks running unasked stop halt standing step move
  refine ⟨fun n d plate w p positioning action working snapshot => ask ?_, fun parking kind => ask ?_⟩
  · simp [State.stepMove, positioning, action, working, lift, snapshot]
  · cases action : t.action with
    | cut n d plate => simp [action, StepAction.kind] at kind
    | take d => simp [action, StepAction.kind] at kind
    | _ => simp [State.stepMove, parking, action, State.parkFor]

end Sys2Proof.Machine
end

section
/-! The Arbiter's choice (R160) and what a grant does at its requester (R106, R107, R118, R125, R143). -/
namespace Sys2Proof.Machine

/-! ### The choice -/

/-- The place of a requester in the fixed order of R160. -/
def Requester.rank (q : Requester) : Nat :=
  match q with
  | .cut => 0
  | .lift => 1
  | .turn => 2

theorem preferLong_eq : preferLong = preferBy fun (b x : Requester × Nat) => b.2 < x.2 := by
  funext best x
  cases best <;> rfl

theorem Arbiter.mem_standing {a : Arbiter} {x : Requester × Nat} : x ∈ a.standing ↔ a.waiting x.1 = some x.2 := by
  obtain ⟨q, w⟩ := x
  have all : ∀ q : Requester, q ∈ allRequesters := fun q => by cases q <;> decide
  simp only [Arbiter.standing, List.mem_filterMap, Option.map_eq_some_iff, Prod.mk.injEq]
  constructor
  · rintro ⟨_, -, _, h, rfl, rfl⟩
    exact h
  · exact fun h => ⟨q, all q, w, h, rfl, rfl⟩

/-- The pending requests stand in the fixed order. -/
theorem Arbiter.standing_sorted (a : Arbiter) : a.standing.Pairwise fun x y => x.1.rank < y.1.rank := by
  have order : allRequesters.Pairwise fun x y => x.rank < y.rank := by decide
  refine List.Pairwise.filterMap _ (fun q q' lt x hx y hy => ?_) order
  obtain ⟨-, -, rfl⟩ := Option.map_eq_some_iff.1 hx
  obtain ⟨-, -, rfl⟩ := Option.map_eq_some_iff.1 hy
  exact lt

theorem Arbiter.standing_rank {a : Arbiter} {i j : Nat} {x y : Requester × Nat} (hx : a.standing[i]? = some x)
    (hy : a.standing[j]? = some y) (h : i ≤ j) : x.1.rank ≤ y.1.rank := by
  rcases Nat.eq_or_lt_of_le h with rfl | lt
  · rw [hx] at hy
    cases hy
    exact Nat.le_refl _
  · obtain ⟨hi, rfl⟩ := List.getElem?_eq_some_iff.1 hx
    obtain ⟨hj, rfl⟩ := List.getElem?_eq_some_iff.1 hy
    exact Nat.le_of_lt (List.pairwise_iff_getElem.1 a.standing_sorted i j hi hj lt)

/-- The choice is an aged request of the longest wait, or without one the first in the fixed order. -/
theorem Arbiter.choose_cases (a : Arbiter) (limit : Nat) :
    (∃ x i, a.choose limit = some x.1 ∧ ChosenBy (fun b x => b.2 < x.2) (fun x => decide (limit ≤ x.2)) a.standing x i) ∨
      (a.choose limit = a.standing.head?.map Prod.fst ∧ ∀ x ∈ a.standing, x.2 < limit) := by
  have chosen := foldl_preferBy (R := fun (b x : Requester × Nat) => b.2 < x.2) (p := fun x => decide (limit ≤ x.2))
    (es := a.standing) (fun _ _ _ => Nat.lt_trans) (fun _ _ _ => by omega)
  unfold Arbiter.choose
  rw [preferLong_eq]
  split at chosen
  · next none_ =>
    rw [none_]
    exact .inr ⟨rfl, by simpa using chosen⟩
  · next x some_ =>
    obtain ⟨i, chosen⟩ := chosen
    rw [some_]
    exact .inl ⟨x, i, rfl, chosen⟩

theorem Arbiter.choose_none {a : Arbiter} {limit : Nat} : a.choose limit = none ↔ ∀ q, a.waiting q = none := by
  have empty : (∀ q, a.waiting q = none) ↔ a.standing = [] := by
    rw [List.eq_nil_iff_forall_not_mem]
    refine ⟨fun h x hx => ?_, fun h q => ?_⟩
    · rw [Arbiter.mem_standing, h] at hx
      cases hx
    · cases w : a.waiting q with
      | none => rfl
      | some n => exact absurd (Arbiter.mem_standing.2 w) (h (q, n))
  rw [empty]
  rcases a.choose_cases limit with ⟨x, i, chosen, at_⟩ | ⟨chosen, -⟩
  · rw [chosen]
    refine iff_of_false (by simp) fun nil => ?_
    have := at_.place
    simp [nil] at this
  · rw [chosen]
    cases a.standing <;> simp

theorem Arbiter.choose_some {a : Arbiter} {limit : Nat} {q : Requester} (h : a.choose limit = some q) :
    ∃ w, a.waiting q = some w ∧
      ((∃ x v, a.waiting x = some v ∧ limit ≤ v) →
        limit ≤ w ∧ ∀ x v, a.waiting x = some v → v < w ∨ (v = w ∧ q.rank ≤ x.rank)) ∧
      ((∀ x v, a.waiting x = some v → v < limit) → ∀ x v, a.waiting x = some v → q.rank ≤ x.rank) := by
  rcases a.choose_cases limit with ⟨⟨q', w⟩, i, chosen, at_⟩ | ⟨chosen, young⟩
  · rw [chosen] at h
    cases h
    have waits : a.waiting q' = some w := Arbiter.mem_standing.1 (List.mem_of_getElem? at_.place)
    have aged : limit ≤ w := of_decide_eq_true at_.has
    refine ⟨w, waits, fun _ => ⟨aged, fun x v hv => ?_⟩, fun young => absurd aged (Nat.not_le.2 (young q' w waits))⟩
    obtain ⟨j, hj⟩ := List.getElem?_of_mem (Arbiter.mem_standing (x := (x, v)).2 hv)
    rcases Nat.lt_or_ge v limit with lt | ge
    · exact .inl (by omega)
    · rcases Nat.lt_or_ge j i with before | behind
      · exact .inl (at_.before j _ hj (decide_eq_true ge) before)
      · have rank := Arbiter.standing_rank at_.place hj behind
        rcases Nat.eq_or_lt_of_le behind with rfl | behind
        · have same := at_.place.symm.trans hj
          cases same
          exact .inr ⟨rfl, rank⟩
        · have : ¬ w < v := at_.behind j _ hj (decide_eq_true ge) behind
          rcases Nat.lt_or_ge v w with lt | ge
          · exact .inl lt
          · exact .inr ⟨by omega, rank⟩
  · rw [chosen, Option.map_eq_some_iff] at h
    obtain ⟨⟨q', w⟩, head, rfl⟩ := h
    have first : a.standing[0]? = some (q', w) := by rw [← List.head?_eq_getElem?]; exact head
    refine ⟨w, Arbiter.mem_standing.1 (List.mem_of_getElem? first), ?_, fun _ x v hv => ?_⟩
    · rintro ⟨x, v, hv, aged⟩
      exact absurd (young (x, v) (Arbiter.mem_standing.2 hv)) (Nat.not_lt.2 aged)
    · obtain ⟨j, hj⟩ := List.getElem?_of_mem (Arbiter.mem_standing (x := (x, v)).2 hv)
      exact Arbiter.standing_rank first hj (Nat.zero_le j)

theorem Arbiter.grant_effect (a : Arbiter) (q : Requester) :
    (a.grant q).unit = .held ∧ (a.grant q).holder = some q ∧ (a.grant q).waiting q = none ∧
      ∀ x, x ≠ q → (a.grant q).waiting x = a.waiting x := by
  refine ⟨rfl, rfl, by cases q <;> rfl, fun x ne => ?_⟩
  cases q <;> cases x <;> simp_all [Arbiter.grant, Arbiter.put, Arbiter.waiting]

/-! ### The grant at the requester -/

section
variable {s : State}

theorem State.grantCut_cut (cut : s.cycle.purpose = some .cut) :
    s.grantCut =
      (s.setCycle { s.cycle with state := .clamping }).setRunner
        (if s.runner.inPhase .awaitStart then { s.runner with phase := some .cycle } else s.runner) := by
  unfold State.grantCut
  rw [cut]
  cases h : s.runner.inPhase .awaitStart <;> simp [h, State.setPhase, State.setCycle, State.setRunner]

theorem State.grantCut_return (ret : s.cycle.purpose = some .ret) :
    s.grantCut =
      if s.on .knifeTop = false then s.setCycle { s.cycle with state := .strokeUp }
      else if s.on .clampTop = false then s.setCycle { s.cycle with state := .unclamp }
      else s.endCycle := by
  unfold State.grantCut
  rw [ret]
  cases s.on .knifeTop <;> cases s.on .clampTop <;> rfl

theorem State.grantLift_pick {p : PileRec} (picking : s.infeed.lift = .picking) (pile : s.infeed.pile = some p) :
    s.grantLift =
      s.setInfeed
        { s.infeed with liftTimer := ⟨true, 0, 20000⟩, pickHeight := some (p.remaining - if 0 < p.extra then p.base + 1 else p.base) } := by
  unfold State.grantLift Infeed.liftOwed
  rw [picking, pile]
  rfl

theorem State.grantLift_deposit (depositing : s.infeed.lift = .depositing) (empty : s.jogger.state = .empty) :
    s.grantLift =
      (s.setInfeed { s.infeed with liftTimer := ⟨true, 0, 20000⟩ }).setJogger
        { s.jogger with state := .receiving, receivingFor := s.infeed.held.map LiftRec.job } := by
  unfold State.grantLift Infeed.liftOwed
  rw [depositing]
  exact if_pos empty

theorem State.grantLift_return (returning : s.infeed.lift = .returning ∨ s.infeed.lift = .clearance) :
    s.grantLift = s.setInfeed { s.infeed with liftTimer := ⟨true, 0, 20000⟩ } := by
  unfold State.grantLift Infeed.liftOwed
  rcases returning with h | h
  · rw [h]
    rfl
  · rw [h]
    cases s.infeed.clearReturn <;> rfl

/-! ### The grant as a reaction -/

theorem hydGrant_none :
    hydGrant s = none ↔ s.arbiter.unit ≠ .free ∨ s.stop = true ∨ ∀ q, s.arbiter.waiting q = none := by
  rw [← Arbiter.choose_none (limit := s.store.consts.agingLimit * 100)]
  unfold hydGrant
  by_cases free : s.arbiter.unit = .free
  · cases stop : s.stop
    · simp only [free, decide_true, Bool.not_false, Bool.and_self, if_true, ne_eq, not_true, Bool.false_eq_true, false_or]
      rcases s.arbiter.choose (s.store.consts.agingLimit * 100) with _ | _ | _ | _ <;> simp
    · simp
  · simp [free]

theorem hydGrant_due {q : Requester} (free : s.arbiter.unit = .free) (stop : s.stop = false)
    (chosen : s.arbiter.choose (s.store.consts.agingLimit * 100) = some q) :
    hydGrant s =
      some (match q with
        | .cut => (s.setArbiter (s.arbiter.grant q)).grantCut
        | .lift => (s.setArbiter (s.arbiter.grant q)).grantLift
        | .turn => (s.setArbiter (s.arbiter.grant q)).grantTurn) := by
  unfold hydGrant
  simp only [free, stop, chosen, decide_true, Bool.not_false, Bool.and_self, if_true]
  cases q <;> rfl

/-- Settles O30: the choice by R160, and each requester's own answer to its grant. -/
theorem grantsAreChosenAndTaken : Obligations.GrantsAreChosenAndTaken := by
  refine ⟨fun a limit => ?choice, takenAt_of_place rfl, fun s => ⟨hydGrant_none, ?taken, rfl, rfl, rfl, ?command⟩⟩
  case choice =>
    intro rank
    have fixed : rank = Requester.rank := by
      funext q
      cases q <;> rfl
    rw [fixed]
    exact ⟨Arbiter.choose_none, fun q chosen => Arbiter.choose_some chosen, fun q => a.grant_effect q⟩
  case command => unfold State.cycleCommand; cases s.cycle.state <;> rfl
  case taken =>
    intro q free stop chosen t
    have due := hydGrant_due free stop chosen
    refine ⟨?forCut, ?forTurn, ?forLift⟩
    case forCut =>
      rintro rfl
      refine ⟨fun purpose => due.trans (congrArg some (State.grantCut_cut (s := t) purpose)), fun purpose up => ?_,
        fun purpose top up => ?_, fun purpose top clamp => ?_⟩
      · exact due.trans (congrArg some ((State.grantCut_return (s := t) purpose).trans (if_pos up)))
      · refine due.trans (congrArg some ((State.grantCut_return (s := t) purpose).trans ?_))
        rw [if_neg (show ¬ t.on .knifeTop = false from fun no => by rw [show t.on .knifeTop = true from top] at no; cases no)]
        exact if_pos up
      · have ends : t.grantCut = t.endCycle := by
          have top' : t.on .knifeTop = true := top
          have clamp' : t.on .clampTop = true := clamp
          rw [State.grantCut_return (s := t) purpose]
          simp [top', clamp']
        have ended := t.endCycle_ends
        refine ⟨t.endCycle, due.trans (congrArg some ends), ended, ?_⟩
        obtain ⟨-, -, arbiter, -⟩ := ended
        exact arbiter
    case forTurn =>
      rintro rfl
      exact due
    case forLift =>
      rintro rfl
      exact ⟨fun p picking pile => due.trans (congrArg some (State.grantLift_pick (s := t) picking pile)),
        fun depositing empty => due.trans (congrArg some (State.grantLift_deposit (s := t) depositing empty)),
        fun returning => due.trans (congrArg some (State.grantLift_return (s := t) returning))⟩

end

end Sys2Proof.Machine
end

section
/-! The part's own clock (log 1): what a step on an empty queue does, what one millisecond makes of the times, and what each own
event is. -/
namespace Sys2Proof.Machine

/-! ### The order in which an empty queue is filled -/

theorem State.setPending_self {s : State} {q : List Instr} (h : s.pending = q) : s.setPending q = s := by
  subst h
  rfl

theorem Timer.due_iff {t : Timer} : t.due = true ↔ t.running = true ∧ t.limit ≤ t.elapsed := by
  simp [Timer.due]

section
variable {s : State} (empty : s.pending = [])
include empty

theorem step_of_empty : step s = .next s.idleStep := by
  simp only [step, empty]

theorem step_gap (gap : s.link.rx.gap.due = true) (inFrame : s.link.rx.state ≠ .hunt) :
    step s = .next (s.setPending [.gapTimeout]) := by
  have event : gapEvent s = some .gapTimeout := by simp [gapEvent, gap, inFrame]
  rw [step_of_empty empty, State.idleStep, event]

theorem step_byte (quiet : gapEvent s = none) {b : RxByte} {rest : List RxByte} (line : s.link.line = b :: rest) :
    step s =
      .next ((s.setLink { s.link with rx := (s.link.rx.take b).1, line := rest }).setPending (s.link.rx.take b).2.toList) := by
  rw [step_of_empty empty, State.idleStep, quiet]
  simp only [line, State.takeByte]
  cases event : (s.link.rx.take b).2 with
  | none =>
    have stays (l : Link) : (s.setLink l).setPending [] = s.setLink l := State.setPending_self empty
    exact congrArg Host.Outcome.next (stays _).symm
  | some c => rfl

theorem step_own (quiet : gapEvent s = none) (line : s.link.line = []) :
    step s = .next (match ownEvent s with | some c => s.setPending [c] | none => s.tick) := by
  rw [step_of_empty empty, State.idleStep, quiet]
  simp only [line] <;> rfl

end

/-! ### One millisecond -/

/-- What the field's sample brings, besides levels and readings: bytes, events and pulses. -/
theorem State.tick_fields (s : State) :
    s.tick.link = { s.link.tick with line := s.link.line ++ (s.tape.head?.map Sample.bytes).getD [] } ∧
      s.tick.planner = s.planner.map (fun op => { op with timer := op.timer.tick }) ∧ s.tick.gauge = s.gauge.tick ∧
      s.tick.cycle = s.cycle.tick ∧ s.tick.infeed = s.infeed.tick ∧ s.tick.arbiter = s.arbiter.tick ∧
      s.tick.store = s.store.tick ∧ s.tick.pending = s.pending ++ (s.tape.head?.map Sample.events).getD [] ∧
      s.tick.tape = s.tape.tail ∧
      s.tick.jogger =
        (match s.tape with
        | [] => s.jogger.tick (s.pusherOutput = .forward)
        | y :: _ => (s.jogger.tick (s.pusherOutput = .forward)).countPulses y.pulses) := by
  unfold State.tick State.sampleField
  have tape : s.runTimes.tape = s.tape := by simp
  rw [tape]
  cases tape : s.tape with
  | nil => simp [State.runTimes, Link.tick, State.pusherOutput, State.stop, tape]
  | cons y rest => simp [State.runTimes, Link.tick, State.pusherOutput, State.stop]

/-- The transfer timer stands while the pusher does not go forward. -/
theorem State.tick_transferTimer {s : State} (h : s.pusherOutput ≠ .forward) :
    s.tick.jogger.transferTimer = s.jogger.transferTimer := by
  obtain ⟨-, -, -, -, -, -, -, -, -, jogger⟩ := s.tick_fields
  rw [jogger]
  split <;> simp [Jogger.tick, Jogger.countPulses, h]

theorem State.tick_sameBut (s : State) :
    SameBut [.link, .planner, .gauge, .cycle, .infeed, .jogger, .arbiter, .inputs, .channels, .store, .pending, .tape]
      s s.tick := by
  simp [SameBut]

/-- The pusher output is FORWARD exactly while nothing holds a pusher that goes forward. -/
theorem State.pusherOutput_forward {s : State} :
    s.pusherOutput = .forward ↔ s.stop = false ∧ s.jogger.paused = false ∧ s.jogger.pusher = .forward := by
  unfold State.pusherOutput
  cases s.stop <;> cases s.jogger.paused <;> simp

/-- Every time of a millisecond, written out. -/
theorem State.tick_times (s : State) :
    let adv : Timer → Timer := fun t => if t.running then { t with elapsed := min (t.elapsed + 1) t.limit } else t
    let counts : ScanRun → EdgeCounts := fun r =>
      let top : Nat := 2 ^ r.res - 1
      match s.tape with
      | [] => r.counts
      | y :: _ =>
        ⟨min (r.counts.rf1 + y.pulses.rf1) top, min (r.counts.rf2 + y.pulses.rf2) top,
          min (r.counts.rf3 + y.pulses.rf3) top, min (r.counts.sf1 + y.pulses.sf1) top,
          min (r.counts.sf2 + y.pulses.sf2) top⟩
    s.tick.jogger =
      { s.jogger with
        jogTimer := adv s.jogger.jogTimer
        scan := s.jogger.scan.map fun r => { r with timer := adv r.timer, counts := counts r }
        transferTimer :=
          if s.stop = false ∧ s.jogger.paused = false ∧ s.jogger.pusher = .forward then adv s.jogger.transferTimer
          else s.jogger.transferTimer
        clearTimer := adv s.jogger.clearTimer } := by
  intro adv counts
  obtain ⟨-, -, -, -, -, -, -, -, -, jogger⟩ := s.tick_fields
  rw [jogger]
  simp only [← State.pusherOutput_forward]
  cases tape : s.tape with
  | nil =>
    simp only [counts, tape]
    by_cases forward : s.pusherOutput = .forward <;> simp only [Jogger.tick, forward] <;> rfl
  | cons y rest =>
    have scan : (s.jogger.scan.map fun r => { r with timer := r.timer.tick }).map
          (fun r => { r with counts := saturatedCounts r.res (addCounts r.counts y.pulses) }) =
        s.jogger.scan.map fun r => { r with timer := adv r.timer, counts := counts r } := by
      rw [Option.map_map]
      simp only [counts, tape]
      rfl
    rw [← scan]
    by_cases forward : s.pusherOutput = .forward <;> simp only [Jogger.tick, Jogger.countPulses, forward] <;> rfl

/-! ### The own events -/

/-- The events that stand on the filtered inputs and readings (log 48). -/
theorem readingEvents_eq (s : State) :
    (∀ k, s.cycle.state = .strokeDown → s.cycle.entryPassed = false → s.cycle.height = some k →
      entryEvent s = if s.channels.knifeHeight ≤ k then some (.entryPoint s.channels.knifeHeight) else none) ∧
    (s.cycle.state ≠ .strokeDown ∨ s.cycle.entryPassed = true → entryEvent s = none) ∧
    (bottomEvent s =
      if s.cycle.state = .clamping ∧ s.channels.clampHeight ≤ 10 then some (.clampBottom s.channels.clampHeight)
      else none) := by
  refine ⟨fun k down fresh height => ?_, fun h => ?_, ?_⟩
  · simp [entryEvent, down, fresh, Cycle.entered, height]
  · rcases h with h | h <;> simp [entryEvent, h]
  · simp only [bottomEvent, Bool.and_eq_true, decide_eq_true_eq]
    rfl

/-- The expiries of the gauge, the cycle and the Infeed. -/
theorem motionEvents_eq (s : State) :
    let due : Timer → Prop := fun t => t.running = true ∧ t.limit ≤ t.elapsed
    (gaugeEvent s =
      if s.gauge.state = .settling ∧ s.gauge.move ≠ none ∧ due s.gauge.settleTimer then some .settleExpiry
      else if s.gauge.state = .referencing ∧ s.gauge.phase = some .search ∧ due s.gauge.searchTimer then
        some .searchLimitExpiry
      else if due s.gauge.stallTimer then some .encoderStall
      else if s.gauge.state = .paused ∧ due s.gauge.clearTimer then some .gaugeCurtainClearExpiry
      else none) ∧
    (cycleEvent s =
      if s.cycle.monitor = .one ∧ due s.cycle.windowTimer then some .windowExpiry
      else if s.cycle.state = .dwell ∧ due s.cycle.dwellTimer then some .dwellExpiry
      else none) ∧
    (infeedEvent s =
      if due s.infeed.turnerTimer then some (.motionTimerExpiry .turner)
      else if due s.infeed.liftTimer then some (.motionTimerExpiry .lift)
      else none) := by
  simp only [gaugeEvent, cycleEvent, infeedEvent, Bool.and_eq_true, decide_eq_true_eq, Timer.due_iff, Option.isSome_iff_ne_none,
    and_assoc, true_and]

/-- The scan's end and the Jogger's expiries. -/
theorem joggerEvents_eq (s : State) :
    let due : Timer → Prop := fun t => t.running = true ∧ t.limit ≤ t.elapsed
    (∀ r, s.jogger.state = .jogging → s.jogger.scan = some r →
      scanEvent s = if due r.timer then some (.edgeScanEnd r.counts) else none) ∧
    (s.jogger.state ≠ .jogging ∨ s.jogger.scan = none → scanEvent s = none) ∧
    (joggerEvent s =
      if s.jogger.state = .jogging ∧ due s.jogger.jogTimer then some .jogTimerExpiry
      else if s.jogger.phase = .push ∧ s.pusherOutput = .forward ∧ due s.jogger.transferTimer then
        some .transferTimerExpiry
      else if s.jogger.paused = true ∧ due s.jogger.clearTimer then some .pusherCurtainClearExpiry
      else none) := by
  refine ⟨fun r jogging scan => ?_, fun h => ?_, ?_⟩
  · simp only [scanEvent, scan, jogging, decide_true, Bool.true_and, Timer.due_iff]
  · unfold scanEvent
    rcases h with h | h
    · cases s.jogger.scan <;> simp [h]
    · rw [h]
  · simp only [joggerEvent, Bool.and_eq_true, decide_eq_true_eq, Timer.due_iff, and_assoc]

/-- The ends of the planning operation, of the store write and of the frame on the line. -/
theorem planAndLinkEvents_eq (s : State) :
    let due : Timer → Prop := fun t => t.running = true ∧ t.limit ≤ t.elapsed
    (∀ op o, s.planner = some op → s.planOutcome = some o →
      planEvent s =
        if due op.timer then
          (match o.2 with
          | .done _ => some .planDone
          | .refused _ => some .planRefused)
        else none) ∧
    (s.planner = none → planEvent s = none) ∧
    (∀ w, s.store.write = some w → due w.timer → linkEvent s = some .storeWriteComplete) ∧
    ((∀ w, s.store.write = some w → ¬due w.timer) →
      linkEvent s = if s.link.tx ≠ .idle ∧ due s.link.txTimer then some .frameSent else none) := by
  refine ⟨fun op o planner outcome => ?_, fun planner => ?_, fun w write due => ?_, fun quiet => ?_⟩
  · obtain ⟨op', result⟩ := o
    simp only [planEvent, planner, outcome, Timer.due_iff]
    cases result <;> rfl
  · simp only [planEvent, planner]
  · have over_ : w.timer.due = true := Timer.due_iff.2 due
    simp [linkEvent, write, over_]
  · have running : ((s.store.write.map fun w => w.timer.due).getD false) = false := by
      cases write : s.store.write with
      | none => rfl
      | some w => exact Bool.eq_false_iff.2 fun h => quiet w write (Timer.due_iff.1 h)
    simp only [linkEvent, running, Bool.false_eq_true, if_false, Bool.and_eq_true, decide_eq_true_eq, Timer.due_iff]

/-- Settles O2: the order of an empty queue, the times of a millisecond, and the events one by one. -/
theorem idleStepServesOrTicks : Obligations.IdleStepServesOrTicks := by
  refine ⟨fun s empty => ⟨step_gap empty, fun noGap => ?_⟩, ?_⟩
  · have quiet : gapEvent s = none := by
      unfold gapEvent
      rcases noGap with h | h <;> simp [h]
    refine ⟨fun b rest line => step_byte empty quiet line, fun line => ?_⟩
    have own := step_own empty quiet line
    refine ⟨fun c event => ?_, fun f rest requests serving => ?_, fun none_ => ?_⟩
    · rw [own, event]
    · have event : ownEvent s = some (serviceOf s f.kind) := by
        simp [ownEvent, ownEvents, serveEvent, requests, serving]
      rw [own, event]
    · obtain ⟨-, -, -, -, -, -, store, -, -, -⟩ := s.tick_fields
      rw [own, none_, store]
      exact ⟨rfl, s.tick_sameBut, rfl, rfl⟩
  · refine ⟨fun s => ?_, eventAt_of_place rfl, eventAt_of_place rfl, eventAt_of_place rfl, eventAt_of_place rfl,
      eventAt_of_place rfl, eventAt_of_place rfl, eventAt_of_place rfl, eventAt_of_place rfl, eventAt_of_place rfl,
      eventAt_of_place rfl, eventAt_of_place rfl, rfl, fun s => ?_⟩
    · obtain ⟨link, planner, gauge, cycle, infeed, arbiter, store, pending, tape, -⟩ := s.tick_fields
      exact ⟨link, planner, gauge, cycle, infeed, s.tick_times, arbiter, store, pending, tape⟩
    · obtain ⟨entry, noEntry, bottom⟩ := readingEvents_eq s
      obtain ⟨gauge, cycle, infeed⟩ := motionEvents_eq s
      obtain ⟨scan, noScan, jogger⟩ := joggerEvents_eq s
      obtain ⟨plan, noPlan, write, link⟩ := planAndLinkEvents_eq s
      exact ⟨entry, noEntry, bottom, gauge, cycle, infeed, scan, noScan, jogger, plan, noPlan, write, link⟩

end Sys2Proof.Machine
end

section
/-! The stop of the line (R116, R162, R173): E_STOP and the loss of HYD_READY. -/
namespace Sys2Proof.Machine

/-! ### What a stop leaves -/

theorem Gauge.interrupted_rests (g : Gauge) : g.interrupted.inMotion = false := by
  unfold Gauge.interrupted
  split
  · cases h : g.valid <;> simp [Gauge.stands, Gauge.inMotion]
  · next rests => exact Bool.eq_false_iff.2 rests

theorem Gauge.interrupted_travel {g : Gauge} (h : g.inMotion = false) : g.state ≠ .referencing ∧ g.state ≠ .moving := by
  unfold Gauge.inMotion at h
  cases e : g.state <;> simp_all

section
variable {b u : State} {f : FaultSet} (h : StopBegins b u f)
include h

/-- Every output of the part is off once a stop has begun. -/
theorem StopBegins.outputs_off (stops : f.stop = true) :
    u.cycleOutputs = CycleOutputs.off ∧ u.gaugeTravel = false ∧ u.turnerValves = none ∧ u.liftValves = none ∧
      u.pusherOutput = .hold ∧ u.airOutput = false ∧ u.vibrationOutput = 0 := by
  obtain ⟨-, faults, -, arbiter, -, gauge, -, -, jogger⟩ := h
  have stop : u.stop = true := by rw [State.stop, faults, stops]
  have holder : u.arbiter.holder = none := by rw [arbiter]
  have ⟨notSearching, notMoving⟩ := Gauge.interrupted_travel b.gauge.interrupted_rests
  have air : u.airOutput = false := by
    unfold State.airOutput
    rw [jogger]
    split
    · simp [Timer.stopped]
    · simp [*]
  refine ⟨by simp [State.cycleOutputs, holder], ?_, by simp [State.turnerValves, holder], by simp [State.liftValves, holder],
    by simp [State.pusherOutput, stop], air, by simp [State.vibrationOutput, air]⟩
  rw [State.gaugeTravel, gauge]
  simp [notSearching, notMoving]

/-- A stop leaves what the cycle, the Runner and the Jogger have made so far. -/
theorem StopBegins.keeps :
    (b.cycle.moving = true →
      u.cycle.state = .stopped ∧ u.cycle.purpose = b.cycle.purpose ∧ u.cycle.entryPassed = b.cycle.entryPassed ∧
        u.cycle.counted = b.cycle.counted ∧ u.cycle.height = b.cycle.height) ∧
    (b.cycle.moving = true ∨ b.cycle.state = .waitGrant → b.cycle.monitor = .engaged → u.cycle.monitor = .spent) ∧
    u.runner.state = b.runner.state ∧ u.runner.stepIndex = b.runner.stepIndex ∧ u.runner.phase = b.runner.phase ∧
    u.jogger.lift = b.jogger.lift ∧ u.jogger.phase = b.jogger.phase ∧ u.jogger.pusher = b.jogger.pusher ∧
    u.jogger.transferTimer = b.jogger.transferTimer := by
  obtain ⟨-, -, -, -, cycle, -, runner, -, jogger⟩ := h
  have marked : b.runnerMarked.state = b.runner.state ∧ b.runnerMarked.stepIndex = b.runner.stepIndex ∧
      b.runnerMarked.phase = b.runner.phase := by
    unfold State.runnerMarked
    split <;> exact ⟨rfl, rfl, rfl⟩
  rw [cycle, runner, jogger]
  refine ⟨fun moving => ?_, fun stops engaged => ?_, ?_, ?_, ?_, ?_, ?_, ?_, ?_⟩
  · simp [moving, Cycle.spentTo]
  · cases moving : b.cycle.moving
    · have waits : b.cycle.state = .waitGrant := by simpa [moving] using stops
      simp [waits, Cycle.withdrawn, Cycle.spentTo, engaged]
    · simp [Cycle.spentTo, engaged]
  · dsimp only
    split
    · exact marked.1
    · rfl
  · dsimp only
    split
    · exact marked.2.1
    · rfl
  · dsimp only
    split
    · exact marked.2.2
    · rfl
  · split <;> rfl
  · split <;> rfl
  · split <;> rfl
  · split <;> rfl

end

/-! ### E_STOP -/

/-- A kind that is in the set already changes nothing. -/
theorem State.latch_of_has {s : State} {k : FaultKind} (h : s.faults.has k = true) : s.latch k = s := by
  simp [State.latch, h]

/-- Settles O31: what a stop begins, read off its definition; the outputs follow from it. -/
theorem emergencyStopHaltsTheLine : Obligations.EmergencyStopHaltsTheLine := by
  intro s
  have opens : exec .eStopOpen s = .next ((s.sense .eStop true).latch .eStop).transmit := rfl
  refine ⟨fun clear => ?_, fun latched => ?_, rfl, by simp [State.stop]⟩
  · let b : State := s.sense .eStop true
    let u : State := b.latch .eStop
    have begins : StopBegins b u { s.faults with eStop := true } := by
      have base := b.latch_stop .eStop (by simpa [FaultSet.has, b] using clear) rfl
      have put : b.faults.put .eStop true = { s.faults with eStop := true } := by simp [b, FaultSet.put]
      exact put ▸ base
    have stops : FaultSet.stop { s.faults with eStop := true } = true := rfl
    have same : SameBut [.link, .runner, .gauge, .cycle, .infeed, .jogger, .arbiter, .inputs, .faults] s u :=
      SameBut.trans (t := b) (by simp [SameBut, b]) (begins.1.mono)
    have on (x : Switch) : u.on x = b.on x := begins.1.on x
    have stop : u.stop = true := by rw [State.stop, begins.2.1, stops]
    obtain ⟨moving, engaged, state, index, phase, lift, transfer, pusher, timer⟩ := begins.keeps
    obtain ⟨valves, travel, turner, lifter, hold, air, vibration⟩ := begins.outputs_off stops
    have suspended : u.transmit.tick.jogger.transferTimer = s.jogger.transferTimer := by
      have holds : u.transmit.pusherOutput ≠ .forward := by simp [State.pusherOutput, State.stop, show u.faults.stop = true from stop]
      rw [State.tick_transferTimer holds]
      simpa [b] using timer
    refine ⟨u, opens, same, ?_, fun x ne => ?_, stop, begins, ?_, ?_, ?_, ?_, ?_, ?_, ?_, ?_, suspended, valves, travel, turner,
      lifter, hold, air, vibration⟩
    · rw [on]
      exact s.sense_on_self .eStop true
    · rw [on]
      exact s.sense_on_other .eStop x true ne
    all_goals simpa [b] using ‹_›
  · rw [opens, State.latch_of_has (by simpa [FaultSet.has] using latched)]

/-- Settles O53: HYD_READY as the Arbiter's unit takes it; lost under a grant it is the stop of HYD_PRESSURE. -/
theorem hydraulicsReadyAndLost : Obligations.HydraulicsReadyAndLost := by
  intro s
  have up : exec .hydReadyActive s =
      .next (if s.arbiter.unit = .unavailable then (s.sense .hydReady true).setArbiter { s.arbiter with unit := .free }
        else s.sense .hydReady true).finish := by
    simp only [exec, execHydReadyActive, State.sense_frame]
  have down : exec .hydReadyInactive s =
      .next (match s.arbiter.unit with
        | .held => (s.sense .hydReady false).latch .hydPressure
        | .free => (s.sense .hydReady false).setArbiter { s.arbiter with unit := .unavailable }
        | .unavailable => s.sense .hydReady false).transmit := by
    simp only [exec, execHydReadyInactive, State.sense_frame] <;> rfl
  refine ⟨fun h => by rw [up, if_pos h], fun h => by rw [up, if_neg h], fun h => by rw [down, h], fun h => by rw [down, h],
    fun held clear => ?_, fun held latched => ?_⟩
  · let b : State := s.sense .hydReady false
    let u : State := b.latch .hydPressure
    have begins : StopBegins b u { s.faults with hydPressure := true } := by
      have base := b.latch_stop .hydPressure (by simpa [FaultSet.has, b] using clear) rfl
      have put : b.faults.put .hydPressure true = { s.faults with hydPressure := true } := by simp [b, FaultSet.put]
      exact put ▸ base
    have stops : FaultSet.stop { s.faults with hydPressure := true } = true := by simp [FaultSet.stop]
    have on (x : Switch) : u.on x = b.on x := begins.1.on x
    have ready : b.on .hydReady = false := s.sense_on_self .hydReady false
    obtain ⟨moving, -⟩ := begins.keeps
    have off := begins.outputs_off stops
    have ⟨_, faults, _, arbiter, _, gauge, _⟩ := begins
    refine ⟨u, by rw [down, held], begins, (on .hydReady).trans ready, fun x ne => ?_, by rw [State.stop, faults, stops], ?_,
      fun m => (moving (by simpa [b] using m)).1, ?_, off⟩
    · rw [on]
      exact s.sense_on_other .hydReady x false ne
    · rw [arbiter, ready]
      rfl
    · rw [gauge]
      exact Gauge.interrupted_rests _
  · rw [down, held]
    exact congrArg (fun t : State => Host.Outcome.next t.transmit) (State.latch_of_has (by simpa [FaultSet.has] using latched))

end Sys2Proof.Machine
end

section
/-! The light curtain (R94, R106, R113, R152): what a break halts, and how a clear curtain lets it go on. -/
namespace Sys2Proof.Machine

/-! ### Cycle states -/

theorem Cycle.cutting_not_waiting {c : Cycle} (h : c.cutting = true) : c.state ≠ .waitGrant := by
  intro waits
  simp [Cycle.cutting, waits] at h

theorem Cycle.aborted_spent {c : Cycle} (engaged : c.monitor = .engaged) (faulted : Bool) :
    (c.aborted faulted).monitor = .spent := by
  simp [Cycle.aborted, Cycle.spentTo, engaged]

theorem Cycle.withdrawn_spent {c : Cycle} (engaged : c.monitor = .engaged) : c.withdrawn.monitor = .spent := by
  simp [Cycle.withdrawn, Cycle.spentTo, engaged]

theorem Cycle.withdrawn_ready {c : Cycle} (ready : c.returnState = .ready) :
    c.withdrawn.state = .ready ∧ c.withdrawn.purpose = none := by
  simp [Cycle.withdrawn, Cycle.spentTo, ready]

/-! ### The break -/

/-- The curtain broken, with gauge and pusher paused. -/
def State.paused (s : State) : State :=
  let s := s.sense .curtain true
  (s.setGauge s.gauge.pause).setJogger s.jogger.pause

theorem State.breakCurtain_eq (s : State) :
    s.breakCurtain =
      if s.cycle.state = .waitGrant ∧ s.cycle.purpose = some .cut then
        (s.paused.setCycle s.cycle.withdrawn).setArbiter { s.arbiter with cut := none }
      else if s.cycle.cutting = true ∧ s.cycle.purpose = some .cut then
        (s.paused.setRunner s.runnerMarked).setCycle (s.cycle.aborted false)
      else s.paused := by
  have cycle : s.paused.cycle = s.cycle := by simp [State.paused]
  have arbiter : s.paused.arbiter = s.arbiter := by simp [State.paused]
  have marked : s.paused.runnerMarked = s.runnerMarked := by simp [State.runnerMarked, State.paused]
  have break_ : s.breakCurtain =
      if s.paused.cycle.state = .waitGrant then s.paused.withdrawCut
      else if s.paused.cycle.purpose = some .cut then s.paused.abortCycle false
      else s.paused := rfl
  rw [break_, State.withdrawCut_eq, cycle, arbiter]
  by_cases waits : s.cycle.state = .waitGrant
  · have notCutting : s.cycle.cutting = false := by simp [Cycle.cutting, waits]
    simp only [waits, notCutting, if_true, decide_true, Bool.true_and, true_and, decide_eq_true_eq, Bool.false_eq_true, false_and,
      if_false]
  · simp only [waits, if_false, false_and]
    by_cases cut : s.cycle.purpose = some .cut
    · simp only [cut, if_true, and_true]
      by_cases cutting : s.cycle.cutting = true
      · rw [if_pos cutting, State.abortCycle_eq _ _ (by rw [cycle]; exact cutting), cycle, marked]
      · rw [if_neg cutting, State.abortCycle, cycle, if_neg cutting]
    · simp only [cut, and_false, if_false]

theorem State.paused_fields (s : State) :
    SameBut [.gauge, .jogger, .inputs] s s.paused ∧ s.paused.inputs = (s.sense .curtain true).inputs ∧
      s.paused.gauge = s.gauge.pause ∧ s.paused.jogger = s.jogger.pause := by
  simp [State.paused, SameBut]

/-- What a break leaves in every case. -/
theorem State.breakCurtain_fields (s : State) :
    SameBut [.runner, .gauge, .cycle, .jogger, .arbiter, .inputs] s s.breakCurtain ∧
      s.breakCurtain.inputs = (s.sense .curtain true).inputs ∧ s.breakCurtain.gauge = s.gauge.pause ∧
      s.breakCurtain.jogger = s.jogger.pause := by
  obtain ⟨same, inputs, gauge, jogger⟩ := s.paused_fields
  rw [State.breakCurtain_eq]
  split
  · exact ⟨same.mono.trans (by simp [SameBut]), inputs, gauge, jogger⟩
  · split
    · exact ⟨same.mono.trans (by simp [SameBut]), inputs, gauge, jogger⟩
    · exact ⟨same.mono, inputs, gauge, jogger⟩

theorem Gauge.pause_eq (g : Gauge) :
    g.pause =
      if g.state = .referencing ∨ g.state = .moving then
        { g with
          state := .paused
          stallTimer := Timer.stopped
          searchTimer := { g.searchTimer with running := false }
          clearTimer := Timer.stopped }
      else if g.state = .paused then { g with clearTimer := Timer.stopped }
      else g := by
  unfold Gauge.pause
  cases g.state <;> simp [Timer.halt]

theorem Gauge.pause_rests (g : Gauge) : g.pause.state ≠ .referencing ∧ g.pause.state ≠ .moving := by
  unfold Gauge.pause
  split <;> simp [*]

/-- Settles O32: the break's three cases of the cycle, with gauge and pusher paused in each. -/
theorem curtainBreakStopsMotion : Obligations.CurtainBreakStopsMotion := by
  intro s
  obtain ⟨same, inputs, gauge, jogger⟩ := s.breakCurtain_fields
  have on (x : Switch) : s.breakCurtain.on x = (s.sense .curtain true).on x := by rw [State.on, State.on, inputs]
  have ⟨notSearching, notMoving⟩ := s.gauge.pause_rests
  refine ⟨s.breakCurtain, rfl, same, ?_, fun x ne => ?_, ?_, ?_, gauge.trans s.gauge.pause_eq, jogger, ?_, ?_, ?_, ?_⟩
  · rw [on, State.sense_on_self]
  · rw [on, State.sense_on_other _ _ _ _ ne]
  · rw [State.gaugeTravel, gauge]
    simp [notSearching, notMoving]
  · rw [State.pusherOutput, jogger]
    unfold Jogger.pause
    split <;> simp [*]
  · intro cutting cut
    have notWaiting := Cycle.cutting_not_waiting cutting
    rw [State.breakCurtain_eq, if_neg (fun h => notWaiting h.1), if_pos ⟨cutting, cut⟩]
    exact ⟨rfl, rfl, fun engaged => Cycle.aborted_spent engaged false, s.paused_fields.1.arbiter, rfl⟩
  · intro waits cut
    rw [State.breakCurtain_eq, if_pos ⟨waits, cut⟩]
    exact ⟨rfl, Cycle.withdrawn_ready, Cycle.withdrawn_spent, rfl, s.paused_fields.1.runner⟩
  · intro other
    rw [State.breakCurtain_eq, if_neg (fun h => other h.2), if_neg (fun h => other h.2)]
    exact ⟨s.paused_fields.1.cycle, s.paused_fields.1.arbiter, s.paused_fields.1.runner⟩
  · intro notCutting notWaiting
    rw [State.breakCurtain_eq, if_neg (fun h => notWaiting h.1), if_neg (fun h => by simp [notCutting] at h)]
    exact ⟨s.paused_fields.1.cycle, s.paused_fields.1.arbiter, s.paused_fields.1.runner⟩

/-! ### The clear curtain -/

section
variable (g : Gauge) (m : Move)

/-- The forward travel where T lies in front, else the settling. -/
theorem Gauge.approach_cases :
    (m.target < g.position → (g.approach m).state = .moving ∧ (g.approach m).phase = some .approach) ∧
      (g.position ≤ m.target →
        (g.approach m).state = .settling ∧ (g.approach m).phase = none ∧ (g.approach m).settleTimer = Timer.start m.settle) := by
  unfold Gauge.approach
  refine ⟨fun front => ?_, fun reached => ?_⟩
  · rw [if_pos front]
    exact ⟨rfl, rfl⟩
  · rw [if_neg (Int.not_lt.2 reached)]
    exact ⟨rfl, rfl, rfl⟩

/-- What a travel and a settling leave of the gauge as it was. -/
def Gauge.KeptBy (g h : Gauge) : Prop :=
  h.position = g.position ∧ h.valid = g.valid ∧ h.corrective = g.corrective ∧ h.refRun = g.refRun ∧ h.pendingMove = g.pendingMove

theorem Gauge.approach_keeps : g.KeptBy (g.approach m) ∧ (g.approach m).move = g.move := by
  unfold Gauge.approach
  split <;> exact ⟨⟨rfl, rfl, rfl, rfl, rfl⟩, rfl⟩

theorem Gauge.reapproach_keeps :
    g.KeptBy (g.reapproach m) ∧ (g.reapproach m).move = some { m with overshoot := some (min (m.target + m.backlash) m.gmax) } := by
  unfold Gauge.reapproach
  dsimp only
  split
  · exact ⟨⟨rfl, rfl, rfl, rfl, rfl⟩, rfl⟩
  · exact Gauge.approach_keeps _ _

theorem Gauge.resume_keeps : g.KeptBy g.resume := by
  unfold Gauge.resume
  split
  · exact ⟨rfl, rfl, rfl, rfl, rfl⟩
  · split
    · exact ⟨rfl, rfl, rfl, rfl, rfl⟩
    · exact (g.approach_keeps _).1
  · split
    · exact ⟨rfl, rfl, rfl, rfl, rfl⟩
    · exact (g.reapproach_keeps _).1
  · exact ⟨rfl, rfl, rfl, rfl, rfl⟩

variable {g m}

theorem Gauge.resume_overshoot (move : g.move = some m) (phase : g.phase = some .overshoot) :
    g.resume = if g.position < m.overshoot.getD m.target then g.go false .overshoot else g.approach m := by
  simp only [Gauge.resume, move, phase]

theorem Gauge.resume_approach (move : g.move = some m) (phase : g.phase = some .approach) :
    g.resume = if m.target < g.position then g.go false .approach else g.reapproach m := by
  simp only [Gauge.resume, move, phase]

/-- With the position at T or forward of it the overshoot travel is made again, or nothing is left to travel. -/
theorem Gauge.reapproach_cases (reached : g.position ≤ m.target) :
    let o : Int := min (m.target + m.backlash) m.gmax
    (g.position < o → (g.reapproach m).state = .moving ∧ (g.reapproach m).phase = some .overshoot) ∧
      (o ≤ g.position →
        (g.reapproach m).state = .settling ∧ (g.reapproach m).phase = none ∧
          (g.reapproach m).settleTimer = Timer.start m.settle) := by
  intro o
  unfold Gauge.reapproach
  simp only [Option.getD_some]
  refine ⟨fun short => ?_, fun there => ?_⟩
  · rw [if_pos (show g.position < min (m.target + m.backlash) m.gmax from short)]
    exact ⟨rfl, rfl⟩
  · rw [if_neg (Int.not_lt.2 (show min (m.target + m.backlash) m.gmax ≤ g.position from there))]
    exact (Gauge.approach_cases _ _).2 reached

end

/-- Settles O33: the clear interval's start, and each resumption by the phase that the motion kept. -/
theorem curtainClearResumesAfterHalfASecond : Obligations.CurtainClearResumesAfterHalfASecond := by
  intro s
  refine ⟨⟨s.clearCurtain, rfl, ?_, ?_, fun x ne => ?_, ?_, ?_⟩, fun paused running => ?_, fun paused running => ?_⟩
  · simp [SameBut, State.clearCurtain]
  · exact s.sense_on_self .curtain false
  · exact s.sense_on_other .curtain x false ne
  · simp [State.clearCurtain, Gauge.curtainClear]
    rfl
  · simp [State.clearCurtain, Jogger.curtainClear]
    rfl
  · obtain ⟨position, valid, corrective, refRun, pending⟩ := s.gauge.resume_keeps
    refine ⟨s.setGauge s.gauge.resume, ?_, by simp [SameBut], position, valid, corrective, fun phase => ?_, refRun, pending,
      fun m move phase => ?_, fun m move phase => ?_⟩
    · simp [exec, execGaugeCurtainClearExpiry, paused, running]
    · simp [Gauge.resume, phase, Timer.carryOn]
    · have resumes := Gauge.resume_overshoot move phase
      rw [setGauge_gauge, resumes]
      refine ⟨?_, fun short => ?_, fun there => ?_⟩
      · split
        · exact move
        · exact (s.gauge.approach_keeps m).2.trans move
      · rw [if_pos short]
        exact ⟨rfl, rfl⟩
      · rw [if_neg (Int.not_lt.2 there)]
        exact s.gauge.approach_cases m
    · intro o
      have resumes := Gauge.resume_approach move phase
      rw [setGauge_gauge, resumes]
      refine ⟨fun front => ?_, fun reached => ?_⟩
      · rw [if_pos front]
        exact ⟨rfl, rfl, move⟩
      · rw [if_neg (Int.not_lt.2 reached)]
        exact ⟨(s.gauge.reapproach_keeps m).2, Gauge.reapproach_cases reached⟩
  · refine ⟨s.setJogger s.jogger.resume, ?_, by simp [SameBut], rfl, fun stop => ?_⟩
    · simp [exec, execPusherCurtainClearExpiry, paused, running]
    · have stop_ : (s.setJogger s.jogger.resume).stop = false := stop
      rw [State.pusherOutput, stop_]
      rfl

end Sys2Proof.Machine
end

section
/-! The two-hand monitor (R105, R106, R113, R120 to R122): presses, releases and the window's expiry. -/
namespace Sys2Proof.Machine

/-! ### A press -/

/-- The engagement is taken as R105 gives: a cut, a return, or neither. -/
theorem State.engage_eq (s : State) :
    s.engage =
      if s.cycle.state = .ready ∧ s.runner.inPhase .awaitStart = true ∧ s.on .curtain = false ∧ s.stop = false then s.raiseCut
      else if s.cycle.state = .returnNeeded ∧ s.stop = false then s.raiseReturn
      else s.setCycle s.cycle.spend := by
  unfold State.engage
  cases state : s.cycle.state <;> simp
  case ready =>
    cases s.runner.inPhase .awaitStart <;> cases s.on .curtain <;> cases s.stop <;> rfl
  case returnNeeded =>
    cases s.stop <;> rfl

theorem State.raise_cut {s : State} (stop : s.stop = false) : s.raise .cut = s.setArbiter { s.arbiter with cut := some 0 } := by
  rw [State.raise, if_neg (by simp [stop])]
  rfl

theorem State.raiseCut_fields {s : State} (stop : s.stop = false) :
    s.raiseCut.arbiter = { s.arbiter with cut := some 0 } ∧
      s.raiseCut.cycle =
        { s.cycle with
          state := .waitGrant
          purpose := some .cut
          returnState := .ready
          entryPassed := false
          counted := false
          height := none
          pressureStep := s.raiseCut.cycle.pressureStep
          dwell := s.raiseCut.cycle.dwell
          faulted := false } ∧
      ∀ l p, s.runner.lift = some l → (s.bank l.bank).snapshot = some p →
        s.raiseCut.cycle.pressureStep = p.pressure ∧ s.raiseCut.cycle.dwell = p.dwell := by
  unfold State.raiseCut
  rw [State.raise_cut (by exact stop)]
  refine ⟨rfl, rfl, fun l p lift snapshot => ?_⟩
  simp [State.liftBank, lift, snapshot]

theorem State.raiseReturn_fields {s : State} (stop : s.stop = false) :
    s.raiseReturn.arbiter = { s.arbiter with cut := some 0 } ∧
      s.raiseReturn.cycle = { s.cycle with state := .waitGrant, purpose := some .ret, returnState := .returnNeeded } := by
  unfold State.raiseReturn
  rw [State.raise_cut (by exact stop)]
  exact ⟨rfl, rfl⟩

/-- A press of the other button in ONE offers the engagement. -/
theorem State.pressHand_one {s : State} (one : s.cycle.monitor = .one) (left : s.on .handL = true) (right : s.on .handR = true) :
    s.pressHand = (s.setCycle { s.cycle with monitor := .engaged, windowTimer := Timer.stopped }).engage := by
  simp only [State.pressHand, one, left, right, Bool.and_self, if_true]
  rfl

/-- Settles O34: the press by the monitor's state, and the engagement as R105 takes it. -/
theorem twoHandMonitorPresses : Obligations.TwoHandMonitorPresses := by
  intro hand s
  let b : State := s.sense (handSwitch hand) true
  have frame : SameBut [.cycle, .arbiter] b b.pressHand := by simp [SameBut]
  have on (x : Switch) : b.pressHand.on x = b.on x := frame.on x
  have cycle : b.cycle = s.cycle := by simp [b]
  have arbiter : b.arbiter = s.arbiter := by simp [b]
  refine ⟨b.pressHand, rfl, SameBut.trans (t := b) (by simp [SameBut, b]) frame.mono, ?_, fun x ne => ?_, fun idle => ?_,
    fun done => ?_, fun one left right => ?_⟩
  · rw [on]
    exact s.sense_on_self _ true
  · rw [on]
    exact s.sense_on_other _ x true ne
  · rw [State.pressHand, cycle, idle]
    exact ⟨rfl, arbiter⟩
  · rw [State.pressHand, cycle]
    rcases done with h | h <;> rw [h] <;> exact ⟨cycle, arbiter⟩
  · rw [on] at left right
    have offered := State.pressHand_one (cycle.symm ▸ one : b.cycle.monitor = .one) left right
    let c : State := b.setCycle { b.cycle with monitor := .engaged, windowTimer := Timer.stopped }
    rw [offered, State.engage_eq]
    have same : ((c.cycle.state = .ready ∧ c.runner.inPhase .awaitStart = true ∧ c.on .curtain = false ∧ c.stop = false) ↔
          (s.cycle.state = .ready ∧ s.runner.inPhase .awaitStart = true ∧ s.on .curtain = false ∧ s.stop = false)) ∧
        ((c.cycle.state = .returnNeeded ∧ c.stop = false) ↔ (s.cycle.state = .returnNeeded ∧ s.stop = false)) := by
      have curtain : c.on .curtain = s.on .curtain := s.sense_on_other _ .curtain true (by cases hand <;> decide)
      rw [curtain]
      simp [c, b, State.stop]
    refine ⟨fun ready awaits curtain stop => ?_, fun ret stop => ?_, fun noCut noReturn => ?_⟩
    · have stop_ : c.stop = false := by simpa [c, b, State.stop] using stop
      rw [if_pos (same.1.2 ⟨ready, awaits, curtain, stop⟩)]
      obtain ⟨arb, cyc, paper⟩ := State.raiseCut_fields stop_
      refine ⟨arb.trans ?_, cyc.trans ?_, fun l p lift snapshot => paper l p ?_ ?_⟩
      · simp [c, arbiter]
      · simp [c, cycle]
      · simpa [c, b] using lift
      · cases h : l.bank <;> simpa [c, b, State.bank, h] using snapshot
    · have stop_ : c.stop = false := by simpa [c, b, State.stop] using stop
      have notReady : s.cycle.state ≠ .ready := by simp [ret]
      rw [if_neg (fun h => notReady (same.1.1 h).1), if_pos (same.2.2 ⟨ret, stop⟩)]
      obtain ⟨arb, cyc⟩ := State.raiseReturn_fields stop_
      exact ⟨arb.trans (by simp [c, arbiter]), cyc.trans (by simp [c, cycle])⟩
    · rw [if_neg (fun h => noCut (same.1.1 h)), if_neg (fun h => noReturn (same.2.1 h))]
      refine ⟨?_, arbiter⟩
      simp [Cycle.spend, Cycle.setMonitor, cycle]

/-! ### A release -/

/-- What a release in ENGAGED makes of the cycle: a request withdrawn, a cut aborted, or the monitor alone. -/
theorem State.releaseEngaged_eq {s : State} (engaged : s.cycle.monitor = .engaged) :
    s.releaseEngaged =
      if s.cycle.state = .waitGrant then (s.setCycle s.cycle.withdrawn).setArbiter { s.arbiter with cut := none }
      else if s.cycle.cutting = true ∧ s.cycle.purpose = some .cut then
        (s.setRunner s.runnerMarked).setCycle (s.cycle.aborted false)
      else s.setCycle (s.cycle.setMonitor .spent) := by
  have spend : s.cycle.spend = s.cycle.setMonitor .spent := by simp [Cycle.spend, engaged]
  have spent : (s.setCycle (s.cycle.setMonitor .spent)).cycle = s.cycle.setMonitor .spent := rfl
  unfold State.releaseEngaged
  dsimp only
  by_cases waits : s.cycle.state = .waitGrant
  · rw [if_pos (show (s.setCycle (s.cycle.setMonitor .spent)).cycle.state = .waitGrant from waits), if_pos waits,
      ← Cycle.withdrawn_eq, spend]
    rfl
  · rw [if_neg (show (s.setCycle (s.cycle.setMonitor .spent)).cycle.state ≠ .waitGrant from waits), if_neg waits]
    by_cases cut : s.cycle.purpose = some .cut
    · rw [if_pos (show (s.setCycle (s.cycle.setMonitor .spent)).cycle.purpose = some .cut from cut)]
      by_cases cutting : s.cycle.cutting = true
      · have aborted : (s.cycle.setMonitor .spent).aborted false = s.cycle.aborted false := by
          simp [Cycle.aborted, Cycle.spentTo, Cycle.setMonitor, engaged]
        rw [if_pos ⟨cutting, cut⟩, State.abortCycle_eq _ _ (by exact cutting), spent, aborted]
        rfl
      · rw [if_neg (fun h => cutting h.1), State.abortCycle, if_neg (by exact cutting)]
    · rw [if_neg (show (s.setCycle (s.cycle.setMonitor .spent)).cycle.purpose ≠ some .cut from cut), if_neg (fun h => cut h.2)]

/-- A SPENT monitor goes on to IDLE where no button is left pressed. -/
theorem Cycle.refresh_spent {c : Cycle} (spent : c.monitor = .spent) (window : c.windowTimer = Timer.stopped) (left right : Bool) :
    c.refresh left right = { c with monitor := if (!left && !right) = true then .idle else .spent } := by
  obtain ⟨⟩ := c
  simp only at spent window
  subst spent window
  cases left <;> cases right <;> rfl

/-- A release in any other monitor state concerns the monitor alone. -/
theorem State.releaseHand_other {s : State} (h : s.cycle.monitor ≠ .engaged) :
    s.releaseHand.arbiter = s.arbiter ∧ s.releaseHand.runner = s.runner ∧
      s.releaseHand.cycle.refresh (s.on .handL) (s.on .handR) =
        if (!s.on .handL && !s.on .handR) = true ∧ (s.cycle.monitor = .one ∨ s.cycle.monitor = .spent) then
          { s.cycle with monitor := .idle, windowTimer := Timer.stopped }
        else s.cycle := by
  unfold State.releaseHand
  cases monitor : s.cycle.monitor with
  | idle => simp [Cycle.refresh, monitor]
  | one =>
    by_cases off : (!s.on .handL && !s.on .handR) = true
    · simp [off, Cycle.refresh, Cycle.setMonitor]
    · simp [off, Cycle.refresh, monitor]
  | engaged => exact absurd monitor h
  | spent => simp [Cycle.refresh, monitor, Cycle.setMonitor]

theorem State.releaseHand_frame_sameBut (s : State) : SameBut [.runner, .cycle, .arbiter] s s.releaseHand := by
  simp [SameBut]

/-- Settles O35: the release by the monitor's state; a SPENT monitor is then refreshed. -/
theorem twoHandMonitorReleases : Obligations.TwoHandMonitorReleases := by
  intro hand s
  refine ⟨?_, fun one => by simp [exec, execWindowExpiry, one, Cycle.setMonitor], fun other => by
    simp [exec, execWindowExpiry, other]⟩
  let b : State := s.sense (handSwitch hand) false
  let c : State := b.releaseHand
  let u : State := c.setCycle (c.cycle.refresh (c.on .handL) (c.on .handR))
  have frame : SameBut [.runner, .cycle, .arbiter] b c := b.releaseHand_frame_sameBut
  have on (x : Switch) : u.on x = b.on x := frame.on x
  have cycle : b.cycle = s.cycle := by simp [b]
  have arbiter : b.arbiter = s.arbiter := by simp [b]
  have runner : b.runner = s.runner := by simp [b]
  have marked : b.runnerMarked = s.runnerMarked := by simp [b, State.runnerMarked]
  have same : SameBut [.runner, .cycle, .arbiter, .inputs] s u :=
    SameBut.trans (t := c) (SameBut.trans (t := b) (by simp [SameBut, b]) frame.mono) (by simp [SameBut, u])
  refine ⟨u, rfl, same, (on _).trans (s.sense_on_self _ false), fun x ne => (on x).trans (s.sense_on_other _ x false ne), ?_⟩
  intro off left
  have onC (x : Switch) : c.on x = u.on x := rfl
  have refreshed (spent : c.cycle.monitor = .spent) (window : c.cycle.windowTimer = Timer.stopped) :
      u.cycle = { c.cycle with monitor := left } := Cycle.refresh_spent spent window _ _
  have released (engaged : s.cycle.monitor = .engaged) :
      c =
        if s.cycle.state = .waitGrant then (b.setCycle s.cycle.withdrawn).setArbiter { s.arbiter with cut := none }
        else if s.cycle.cutting = true ∧ s.cycle.purpose = some .cut then
          (b.setRunner s.runnerMarked).setCycle (s.cycle.aborted false)
        else b.setCycle (s.cycle.setMonitor .spent) := by
    have byMonitor : c = b.releaseEngaged := by simp only [c, State.releaseHand, cycle, engaged]
    rw [byMonitor, State.releaseEngaged_eq (by rw [cycle, engaged]), cycle, arbiter, marked]
  refine ⟨fun notEngaged => ?_, fun engaged waits => ?_, fun engaged cutting cut => ?_, fun engaged notWaiting other => ?_⟩
  · obtain ⟨arb, run, cyc⟩ := State.releaseHand_other (s := b) (by rw [cycle]; exact notEngaged)
    have offB : off = (!b.on .handL && !b.on .handR) := by simp only [off, on]
    have here : u.cycle = c.cycle.refresh (b.on .handL) (b.on .handR) := by
      rw [← frame.on .handL, ← frame.on .handR]
      rfl
    rw [here, cyc, offB, cycle]
    exact ⟨arb.trans arbiter, run.trans runner, rfl⟩
  · have became := (released engaged).trans (if_pos waits)
    rw [refreshed (by rw [became]; exact Cycle.withdrawn_spent engaged) (by rw [became]; simp [Cycle.withdrawn, Cycle.spentTo, engaged])]
    exact ⟨by rw [became]; rfl, (congrArg State.arbiter became).trans rfl, (congrArg State.runner became).trans runner⟩
  · have became := (released engaged).trans ((if_neg (Cycle.cutting_not_waiting cutting)).trans (if_pos ⟨cutting, cut⟩))
    rw [refreshed (by rw [became]; exact Cycle.aborted_spent engaged false)
      (by rw [became]; simp [Cycle.aborted, Cycle.spentTo, engaged])]
    exact ⟨by rw [became]; rfl, (congrArg State.arbiter became).trans arbiter, (congrArg State.runner became).trans rfl⟩
  · have neither : ¬(s.cycle.cutting = true ∧ s.cycle.purpose = some .cut) := by
      rcases other with h | h <;> simp [h]
    have became := (released engaged).trans ((if_neg notWaiting).trans (if_neg neither))
    rw [refreshed (by rw [became]; rfl) (by rw [became]; rfl)]
    exact ⟨by rw [became]; rfl, (congrArg State.arbiter became).trans arbiter, (congrArg State.runner became).trans runner⟩

end Sys2Proof.Machine
end

section
/-! The cut cycle's events (R107 to R114): pressure, dwell, entry, clamp bottom, the counted stroke and the return. -/
namespace Sys2Proof.Machine

/-! ### The dwell -/

/-- The conditions of R109 besides the clamp pressure. -/
def State.mayGoDown (s : State) : Prop := s.cycle.monitor = .engaged ∧ s.on .curtain = false ∧ s.stop = false

theorem State.mayStroke_iff_mayGoDown {s : State} (pressure : s.on .clampPressure = true) :
    s.mayStroke = true ↔ s.mayGoDown := by
  simp [State.mayStroke_iff, State.mayGoDown, pressure]

theorem State.endDwell_lost {s : State} (dwell : s.cycle.state = .dwell) (lost : s.on .clampPressure = false) :
    s.endDwell = (s.setRunner s.runnerMarked).setCycle (s.cycle.aborted false) := by
  have cutting : s.cycle.cutting = true := by simp [Cycle.cutting, dwell]
  rw [State.endDwell, if_pos dwell, lost, if_pos (by rfl), State.abortCycle_eq s false cutting]

/-- The dwell's end under pressure: the knife starts down under the three other conditions, and is not started without. -/
theorem State.endDwell_held {s : State} (dwell : s.cycle.state = .dwell) (pressure : s.on .clampPressure = true) :
    (s.mayGoDown → s.endDwell = s.setCycle { s.cycle with state := .strokeDown, dwellTimer := s.cycle.dwellTimer.expire }) ∧
      (¬ s.mayGoDown → s.endDwell = s.setCycle { s.cycle with dwellTimer := s.cycle.dwellTimer.expire }) := by
  let t : State := s.setCycle { s.cycle with dwellTimer := s.cycle.dwellTimer.expire }
  have may : t.mayStroke = true ↔ s.mayGoDown := State.mayStroke_iff_mayGoDown (s := t) pressure
  have ends : s.endDwell = if t.mayStroke then t.setCycle { t.cycle with state := .strokeDown } else t := by
    rw [State.endDwell, if_pos dwell, pressure, if_neg (by simp)]
  rw [ends]
  exact ⟨fun h => if_pos (may.2 h), fun h => if_neg fun m => h (may.1 m)⟩

/-! ### Pressure -/

theorem State.reachPressure_clamping {s : State} (clamping : s.cycle.state = .clamping) :
    let h : Nat := min s.channels.clampHeight 16000
    let t : State :=
      s.setCycle
        { s.cycle with state := .dwell, height := some h, lastHeight := h, dwellTimer := Timer.start s.cycle.dwell }
    s.reachPressure = if s.cycle.dwell = 0 then t.endDwell else t := by
  rw [State.reachPressure, if_pos clamping]
  rfl

/-- CLAMP_PRESSURE_ACTIVE: the height is taken and the dwell runs, or is over at once. -/
theorem clampPressureActive_effect (h : Nat) (s : State) :
    ∃ u : State, exec (.clampPressureActive h) s = .next u.transmit ∧
      SameBut [.cycle, .inputs, .channels] s u ∧
      u.on .clampPressure = true ∧ (∀ x, x ≠ .clampPressure → u.on x = s.on x) ∧
      u.channels = { s.channels with clampHeight := h } ∧
      (s.cycle.state = .clamping →
        let c : Cycle := { s.cycle with state := .dwell, height := some (min h 16000), lastHeight := min h 16000 }
        (0 < s.cycle.dwell → u.cycle = { c with dwellTimer := ⟨true, 0, s.cycle.dwell⟩ }) ∧
          (s.cycle.dwell = 0 → s.mayGoDown → u.cycle = { c with state := .strokeDown, dwellTimer := ⟨false, 0, 0⟩ }) ∧
          (s.cycle.dwell = 0 → ¬ s.mayGoDown → u.cycle = { c with dwellTimer := ⟨false, 0, 0⟩ })) ∧
      (s.cycle.state ≠ .clamping → u.cycle = s.cycle) := by
  let b : State := (s.sense .clampPressure true).setChannels { s.channels with clampHeight := h }
  have cycle : b.cycle = s.cycle := by simp [b]
  have start : SameBut [.cycle, .inputs, .channels] s b := by simp [SameBut, b]
  have onB (x : Switch) : b.on x = (s.sense .clampPressure true).on x := rfl
  have runs : exec (.clampPressureActive h) s = .next b.reachPressure.transmit := by
    simp only [exec, execClampPressureActive, b]
  -- what the pressure's arrival changes is the cycle alone
  suffices effect : ∃ c : Cycle, b.reachPressure = b.setCycle c ∧
      (s.cycle.state = .clamping →
        let k : Cycle := { s.cycle with state := .dwell, height := some (min h 16000), lastHeight := min h 16000 }
        (0 < s.cycle.dwell → c = { k with dwellTimer := ⟨true, 0, s.cycle.dwell⟩ }) ∧
          (s.cycle.dwell = 0 → s.mayGoDown → c = { k with state := .strokeDown, dwellTimer := ⟨false, 0, 0⟩ }) ∧
          (s.cycle.dwell = 0 → ¬ s.mayGoDown → c = { k with dwellTimer := ⟨false, 0, 0⟩ })) ∧
      (s.cycle.state ≠ .clamping → c = s.cycle) by
    obtain ⟨c, became, clamping, other⟩ := effect
    refine ⟨b.setCycle c, became ▸ runs, start.mono.trans (by simp [SameBut]), ?_, fun x ne => ?_, rfl, clamping, other⟩
    · exact s.sense_on_self .clampPressure true
    · exact s.sense_on_other .clampPressure x true ne
  by_cases clamping : s.cycle.state = .clamping
  · have reached := State.reachPressure_clamping (s := b) (cycle.symm ▸ clamping)
    dsimp only at reached
    rw [cycle, show b.channels.clampHeight = h from rfl] at reached
    let k : Cycle :=
      { s.cycle with
        state := .dwell, height := some (min h 16000), lastHeight := min h 16000, dwellTimer := Timer.start s.cycle.dwell }
    let t : State := b.setCycle k
    by_cases zero : s.cycle.dwell = 0
    · have pressure : t.on .clampPressure = true := s.sense_on_self .clampPressure true
      have may : t.mayGoDown ↔ s.mayGoDown := by
        have curtain : t.on .curtain = s.on .curtain := s.sense_on_other _ .curtain true (by decide)
        have stop : t.stop = s.stop := by simp [t, b, State.stop]
        have monitor : t.cycle.monitor = s.cycle.monitor := rfl
        simp only [State.mayGoDown, curtain, stop, monitor]
      have expired : k.dwellTimer.expire = ⟨false, 0, 0⟩ := by simp [k, zero, Timer.start, Timer.expire]
      obtain ⟨goes, stays⟩ := State.endDwell_held (s := t) rfl pressure
      rw [if_pos zero] at reached
      by_cases go : s.mayGoDown
      · refine ⟨_, reached.trans (goes (may.2 go)), fun _ => ⟨fun pos => by omega, fun _ _ => ?_, fun _ no => absurd go no⟩,
          fun no => absurd clamping no⟩
        rw [show t.cycle = k from rfl, expired]
      · refine ⟨_, reached.trans (stays fun h => go (may.1 h)),
          fun _ => ⟨fun pos => by omega, fun _ yes => absurd yes go, fun _ _ => ?_⟩, fun no => absurd clamping no⟩
        rw [show t.cycle = k from rfl, expired]
    · rw [if_neg zero] at reached
      exact ⟨k, reached, fun _ => ⟨fun _ => rfl, fun no => absurd no zero, fun no => absurd no zero⟩, fun no => absurd clamping no⟩
  · refine ⟨s.cycle, ?_, fun yes => absurd yes clamping, fun _ => rfl⟩
    rw [State.reachPressure, if_neg (by rw [cycle]; exact clamping), ← cycle]
    rfl

/-- CLAMP_PRESSURE_INACTIVE: an abort where the cycle has its height and is cutting. -/
theorem clampPressureInactive_effect (s : State) :
    ∃ u : State, exec .clampPressureInactive s = .next u.transmit ∧ SameBut [.runner, .cycle, .inputs] s u ∧
      u.on .clampPressure = false ∧ (∀ x, x ≠ .clampPressure → u.on x = s.on x) ∧
      (s.cycle.cutting = true → s.cycle.height ≠ none →
        u.cycle = s.cycle.aborted false ∧ u.runner = s.runnerMarked) ∧
      (s.cycle.cutting = false ∨ s.cycle.height = none → u.cycle = s.cycle ∧ u.runner = s.runner) := by
  let b : State := s.sense .clampPressure false
  have cycle : b.cycle = s.cycle := by simp [b]
  have runner : b.runner = s.runner := by simp [b]
  have marked : b.runnerMarked = s.runnerMarked := by simp [b, State.runnerMarked]
  have start : SameBut [.runner, .cycle, .inputs] s b := by simp [SameBut, b]
  have runs : exec .clampPressureInactive s = .next (if s.cycle.height.isSome then b.abortCycle false else b).transmit := by
    simp only [exec, execClampPressureInactive, b, State.sense_frame]
  have on_ : b.on .clampPressure = false ∧ ∀ x, x ≠ .clampPressure → b.on x = s.on x :=
    ⟨s.sense_on_self .clampPressure false, fun x ne => s.sense_on_other .clampPressure x false ne⟩
  by_cases acts : s.cycle.cutting = true ∧ s.cycle.height ≠ none
  · have aborts : b.abortCycle false = (b.setRunner s.runnerMarked).setCycle (s.cycle.aborted false) := by
      rw [State.abortCycle_eq b false (by rw [cycle]; exact acts.1), marked, cycle]
    rw [if_pos (Option.isSome_iff_ne_none.2 acts.2), aborts] at runs
    refine ⟨_, runs, start.mono.trans (by simp [SameBut]), on_.1, on_.2, fun _ _ => ⟨rfl, rfl⟩, fun no => ?_⟩
    rcases no with no | no
    · simp [acts.1] at no
    · exact absurd no acts.2
  · have stays : (if s.cycle.height.isSome then b.abortCycle false else b) = b := by
      by_cases height : s.cycle.height = none
      · simp [height]
      · have notCutting : b.cycle.cutting = false := by
          rw [cycle]
          exact Bool.eq_false_iff.2 fun h => acts ⟨h, height⟩
        simp [State.abortCycle, notCutting]
    rw [stays] at runs
    exact ⟨b, runs, start, on_.1, on_.2, fun h1 h2 => absurd ⟨h1, h2⟩ acts, fun _ => ⟨cycle, runner⟩⟩

/-- DWELL_EXPIRY in DWELL. -/
theorem dwellExpiry_effect {s : State} (dwell : s.cycle.state = .dwell) :
    ∃ u : State, exec .dwellExpiry s = .next u.transmit ∧ SameBut [.runner, .cycle] s u ∧
      (s.on .clampPressure = true →
        let c : Cycle := { s.cycle with dwellTimer := ⟨false, s.cycle.dwellTimer.limit, s.cycle.dwellTimer.limit⟩ }
        u.runner = s.runner ∧
          (s.mayGoDown →
            u.cycle = { c with state := .strokeDown } ∧
              u.cycleCommand = ⟨.down, .down, some s.cycle.pressureStep⟩ ∧
              (s.arbiter.holder = some .cut → u.cycleOutputs = u.cycleCommand)) ∧
          (¬ s.mayGoDown → u.cycle = c)) ∧
      (s.on .clampPressure = false → u.cycle = s.cycle.aborted false ∧ u.runner = s.runnerMarked) := by
  refine ⟨s.endDwell, rfl, by simp [SameBut], fun pressure => ?_, fun lost => ?_⟩
  · obtain ⟨goes, stays⟩ := State.endDwell_held dwell pressure
    intro c
    by_cases go : s.mayGoDown
    · rw [goes go]
      exact ⟨rfl, fun _ => ⟨rfl, rfl, fun holds => if_pos holds⟩, fun no => absurd go no⟩
    · rw [stays go]
      exact ⟨rfl, fun yes => absurd yes go, fun _ => rfl⟩
  · rw [State.endDwell_lost dwell lost]
    exact ⟨rfl, rfl⟩

/-! ### Entry and clamp bottom -/

theorem entryPoint_effect (h : Nat) (s : State) :
    (∀ k, s.cycle.state = .strokeDown → s.cycle.height = some k →
      exec (.entryPoint h) s =
        .next
          ((s.setChannels { s.channels with knifeHeight := h }).setCycle
            { s.cycle with entryPassed := s.cycle.entryPassed || decide (h ≤ k) }).transmit) ∧
    (s.cycle.state ≠ .strokeDown ∨ s.cycle.height = none →
      exec (.entryPoint h) s = .next (s.setChannels { s.channels with knifeHeight := h }).transmit) := by
  let b : State := s.setChannels { s.channels with knifeHeight := h }
  have runs : exec (.entryPoint h) s =
      .next (if s.cycle.state = .strokeDown && s.cycle.entered h then b.setCycle { s.cycle with entryPassed := true }
        else b).transmit := rfl
  refine ⟨fun k down height => ?_, fun other => ?_⟩
  · have reads : s.cycle.entered h = decide (h ≤ k) := by simp [Cycle.entered, height]
    rw [runs, reads]
    by_cases entered : h ≤ k
    · rw [if_pos (by simp [down, entered]), decide_eq_true entered, Bool.or_true]
    · rw [if_neg (by simp [entered]), decide_eq_false entered, Bool.or_false]
      rfl
  · rw [runs]
    rcases other with h | h <;> simp [h, Cycle.entered, b]

theorem clampBottom_effect (h : Nat) (s : State) :
    (s.cycle.state = .clamping → h ≤ 10 →
      let b : State :=
        (s.setChannels { s.channels with clampHeight := h }).setCycle { s.cycle with state := .unclamp, faulted := true }
      (s.faults.noStack = false →
        ∃ u : State, exec (.clampBottom h) s = .next u.transmit ∧ GuillotineFault b u { s.faults with noStack := true }) ∧
        (s.faults.noStack = true → exec (.clampBottom h) s = .next b.transmit)) ∧
    (s.cycle.state ≠ .clamping ∨ 10 < h →
      exec (.clampBottom h) s = .next (s.setChannels { s.channels with clampHeight := h }).transmit) := by
  have runs : exec (.clampBottom h) s =
      .next (if s.cycle.state = .clamping && decide (h ≤ 10) then
          ((s.setChannels { s.channels with clampHeight := h }).setCycle
            { s.cycle with state := .unclamp, faulted := true }).latch .noStack
        else s.setChannels { s.channels with clampHeight := h }).transmit := rfl
  refine ⟨fun clamping low => ?_, fun other => ?_⟩
  · intro b
    have acts : exec (.clampBottom h) s = .next (b.latch .noStack).transmit := by
      rw [runs, if_pos (by simp [clamping, low])]
    refine ⟨fun clear => ⟨_, acts, ?_⟩, fun latched => ?_⟩
    · exact b.latch_guillotine .noStack clear rfl
    · rw [acts, State.latch_of_has (show b.faults.has .noStack = true from latched)]
  · rw [runs, if_neg]
    rcases other with h | h <;> simp [h]

/-- Settles O36: each of the five events by the cycle's state. -/
theorem clampDwellAndEntry : Obligations.ClampDwellAndEntry := by
  refine ⟨fun h s => ⟨clampPressureActive_effect h s, clampPressureInactive_effect s⟩,
    fun s => ⟨fun other => ?_, fun dwell => dwellExpiry_effect dwell⟩, fun h s => ?_⟩
  · simp [exec, execDwellExpiry, State.endDwell, other]
  · obtain ⟨entered, notEntered⟩ := entryPoint_effect h s
    obtain ⟨bottom, notBottom⟩ := clampBottom_effect h s
    exact ⟨entered, notEntered, bottom, notBottom⟩

/-! ### The stroke -/

theorem Tally.countCut_eq (t : Tally) (recut limited : Bool) :
    t.countCut recut limited =
      { t with
        strokes := t.strokes + 1
        recuts := t.recuts + (if recut then 1 else 0)
        limited := t.limited + (if limited then 1 else 0) } := by
  cases recut <;> cases limited <;> rfl

/-- The completed cut as the Runner takes it (R68, R9). -/
theorem State.completeCut_runner {s : State} {t : CutStep} {w : StackRec} {n : Nat} {d : Disposition} {plate : Bool} (h : Nat)
    (inCycle : s.runner.inPhase .cycle = true) (step : s.theStep = some t) (action : t.action = .cut n d plate)
    (working : s.runner.working = some w) :
    (s.completeCut h).runner =
      { s.runner with
        cutoff :=
          some ⟨⟨w.job, w.lift, if d = .aside then t.strip else w.strip, w.along - n, w.across, h, w.orient, false⟩, d⟩
        working := some ⟨w.job, w.lift, if d = .aside then w.strip else t.strip, n, w.across, h, w.orient, false⟩
        tally :=
          { s.runner.tally with
            strokes := s.runner.tally.strokes + 1
            recuts := s.runner.tally.recuts + (if w.partialCut then 1 else 0)
            limited :=
              s.runner.tally.limited + (if (s.runner.moveResult.map MoveResult.limited).getD false then 1 else 0) } } := by
  simp only [State.completeCut, step, working, action, inCycle, if_true, Tally.countCut_eq]
  rfl

theorem State.completeCut_other {s : State} (h : Nat) (out : s.runner.inPhase .cycle = false) : s.completeCut h = s := by
  unfold State.completeCut
  rw [out]
  split
  · split <;> simp
  · rfl

/-- Settles O37: the counted stroke reaches the cycle and, with a CUT step in CYCLE, the Runner. -/
theorem strokeCountedAtKnifeBottom : Obligations.StrokeCountedAtKnifeBottom := by
  intro s
  let b : State := s.sense .knifeBottom true
  let c : State := b.setCycle { s.cycle with state := .strokeUp, counted := true }
  have runs : exec .knifeBottomActive s =
      .next (if s.cycle.state = .strokeDown then c.completeCut (s.cycle.height.getD 0) else b).transmit := by
    simp only [exec, execKnifeBottomActive, b, c, State.sense_frame] <;> rfl
  refine ⟨fun other => by rw [runs, if_neg other], fun down => ?_⟩
  rw [if_pos down] at runs
  have frame : SameBut [.runner] c (c.completeCut (s.cycle.height.getD 0)) := by simp [SameBut]
  have start : SameBut [.runner, .cycle, .inputs] s c := by simp [SameBut, c, b]
  have runner : c.runner = s.runner := by simp [c, b]
  have step : c.theStep = s.theStep := by simp [c, b, State.theStep, State.liftBank, State.bank]
  refine ⟨_, runs, start.trans frame.mono, ?_, fun x ne => ?_, frame.cycle, fun out => ?_, ?_⟩
  · rw [frame.on]
    exact s.sense_on_self .knifeBottom true
  · rw [frame.on]
    exact s.sense_on_other .knifeBottom x true ne
  · rw [State.completeCut_other _ (by rw [runner]; exact out), runner]
  · intro t w n h d plate inCycle step_ action working height
    rw [height, Option.getD_some, State.completeCut_runner h (runner ▸ inCycle) (step.trans step_) action (runner ▸ working), runner]

/-! ### The return -/

/-- Settles O38: the knife's top, and the clamp's top in the two states that it ends. -/
theorem returnEndsTheCycle : Obligations.ReturnEndsTheCycle := by
  intro s
  let b : State := s.sense .clampTop true
  have top : exec .knifeTopActive s =
      .next (if s.cycle.state = .strokeUp then (s.sense .knifeTop true).setCycle { s.cycle with state := .unclamp }
        else s.sense .knifeTop true).transmit := by
    simp only [exec, execKnifeTopActive, State.sense_frame]
  have knife : b.on .knifeTop = s.on .knifeTop := s.sense_on_other .clampTop .knifeTop true (by decide)
  have cycle : b.cycle = s.cycle := by simp [b]
  have home : exec .clampTopActive s = .next b.clampHome.finish := rfl
  refine ⟨fun up => by rw [top, if_pos up], fun other => by rw [top, if_neg other], fun notUnclamp notAbort => ?_, fun ends => ?_⟩
  · have stays : b.clampHome = b := by
      rw [State.clampHome, cycle, knife, if_neg]
      rcases notAbort with h | h <;> simp [notUnclamp, h]
    rw [home, stays]
  · have over_ : b.clampHome = b.endCycle := by
      rw [State.clampHome, cycle, knife, if_pos]
      rcases ends with h | ⟨h, k⟩ <;> simp [*]
    rw [over_] at home
    have ended := b.endCycle_ends
    refine ⟨b.endCycle, home, SameBut.trans (t := b) (by simp [SameBut, b]) ended.1.mono, ?_, fun x ne => ?_, ended⟩
    · rw [ended.1.on]
      exact s.sense_on_self .clampTop true
    · rw [ended.1.on]
      exact s.sense_on_other .clampTop x true ne

end Sys2Proof.Machine
end

section
/-! The two resets (R182, R189): every block at its reset value, with the notices of the stations in CLEARANCE. -/
namespace Sys2Proof.Machine

/-- The stations that enter CLEARANCE at a reset, in the order of log 28. -/
def resetWaits (infeed jogger : Bool) : List WaitFor :=
  [.clearance .runner] ++ (if infeed then [.clearance .infeed] else []) ++ (if jogger then [.clearance .jogger] else [])

theorem State.resetNotices_link {s : State} {line : List RxByte} (fresh : s.link = Link.reset line) :
    let waits := resetWaits s.inputs.infeedOccupied (s.on .liftPresent)
    s.resetNotices.link =
      { Link.reset line with
        notices := waits.zipIdx.map fun x => ⟨BitVec.ofNat 16 x.2, .wait x.1⟩
        number := BitVec.ofNat 16 waits.length } := by
  have first : (s.await (.clearance .runner)).inputs = s.inputs := rfl
  unfold State.resetNotices
  dsimp only
  rw [first]
  cases infeed : s.inputs.infeedOccupied
  · have on : (s.await (.clearance .runner)).on .liftPresent = s.on .liftPresent := rfl
    rw [if_neg Bool.false_ne_true, on]
    cases s.on .liftPresent <;> simp only [State.await, State.notify, setLink_link, fresh, if_true, Bool.false_eq_true, if_false] <;> rfl
  · have on : ((s.await (.clearance .runner)).await (.clearance .infeed)).on .liftPresent = s.on .liftPresent := rfl
    rw [if_pos rfl, on]
    cases s.on .liftPresent <;> simp only [State.await, State.notify, setLink_link, fresh, if_true, Bool.false_eq_true, if_false] <;> rfl

theorem seedInputs_on (level : Switch → Bool) (x : Switch) : (seedInputs level).on x = level x := by
  rw [Inputs.on, seedInputs_get]
  rfl

theorem FaultSet.has_eStop (open_ : Bool) (k : FaultKind) :
    ({ FaultSet.none with eStop := open_ } : FaultSet).has k = (decide (k = .eStop) && open_) := by
  cases k <;> rfl

theorem Cycle.reset_refresh (top left right : Bool) :
    (Cycle.reset top).refresh left right =
      ⟨if top then .ready else .returnNeeded, none, .ready, false, false, none, 0, 4, 300, false,
        if left || right then .spent else .idle, Timer.stopped, Timer.stopped⟩ := by
  cases top <;> cases left <;> cases right <;> rfl

/-- Every block at its reset value on the levels `on` and the readings `c`, as O39 lists them. -/
def ResetTo (s : State) (on : Switch → Bool) (c : Channels) (valid : Bool) (pos : Int) (u : State) : Prop :=
  let waits : List WaitFor :=
    [.clearance .runner] ++ (if on .pilePresent || on .reamHeld then [.clearance .infeed] else []) ++
      (if on .liftPresent then [.clearance .jogger] else [])
  u.jobs = [] ∧ u.admission = 0 ∧ u.planner = none ∧
    u.bankA = ⟨none, .empty, 0, [], none⟩ ∧ u.bankB = ⟨none, .empty, 0, [], none⟩ ∧
    u.runner =
      ⟨.clearance, none, none, 0, none, false, false, none, none, none, none, [], ⟨0, 0, 0, 0, 0⟩, none, false, false,
        false⟩ ∧
    u.gauge =
      ⟨if valid then .idle else .unreferenced, none, valid, pos, none, none, 0, none, none, Timer.stopped,
        Timer.stopped, Timer.stopped, Timer.stopped, u.store.consts.gminStd, false⟩ ∧
    u.gaugeTravel = false ∧ u.gaugeDirection = none ∧
    u.cycle =
      ⟨if on .knifeTop && on .clampTop then .ready else .returnNeeded, none, .ready, false, false, none, 0, 4, 300,
        false, if on .handL || on .handR then .spent else .idle, Timer.stopped, Timer.stopped⟩ ∧
    u.infeed = Infeed.reset (on .pilePresent || on .reamHeld) ∧
    u.infeed.turner = (if on .pilePresent || on .reamHeld then .clearance else .empty) ∧
    u.jogger = Jogger.reset (on .liftPresent) (on .pusherHome) (on .curtain) ∧
    u.jogger.state = (if on .liftPresent then .clearance else .empty) ∧
    u.arbiter = ⟨if on .hydReady then .free else .unavailable, none, none, none, none⟩ ∧
    (∀ x, u.inputs.get x = ⟨on x, on x, 0, false⟩) ∧ u.channels = c ∧
    (∀ k, u.faults.has k = (k = .eStop && on .eStop)) ∧
    u.link.requests = [] ∧ u.link.replies = [] ∧ u.link.tx = .idle ∧ u.link.restart = none ∧
    u.link.overflow = false ∧ u.link.rx = Receiver.hunting ∧
    u.link.modes = ⟨⟨.every, true⟩, ⟨.every, true⟩, ⟨.off, true⟩, ⟨.every, true⟩, ⟨.every, true⟩⟩ ∧
    u.link.notices = waits.zipIdx.map (fun x => ⟨BitVec.ofNat 16 x.2, .wait x.1⟩) ∧
    u.link.number = BitVec.ofNat 16 waits.length ∧
    u.store.write = none ∧ u.pending = s.pending ∧ u.tape = s.tape

theorem State.blocksReset_resetTo (s : State) (level : Switch → Bool) (c : Channels) (valid : Bool) (pos : Int) (st : Store)
    (free : Nat) (ended : st.write = none) :
    ResetTo s level c valid pos ((s.blocksReset (seedInputs level) c valid pos st).setFree free).resetNotices := by
  let b : State := (s.blocksReset (seedInputs level) c valid pos st).setFree free
  have link := State.resetNotices_link (s := b) (line := s.link.line) rfl
  have occupied : b.inputs.infeedOccupied = (level .pilePresent || level .reamHeld) := by
    change ((seedInputs level).on .pilePresent || (seedInputs level).on .reamHeld) = _
    rw [seedInputs_on, seedInputs_on]
  have present : b.on .liftPresent = level .liftPresent := seedInputs_on level .liftPresent
  rw [occupied, present] at link
  have gauge : b.resetNotices.gauge = Gauge.reset valid pos st.consts.gminStd := by simp [b, State.blocksReset]
  have infeed : b.resetNotices.infeed = Infeed.reset (level .pilePresent || level .reamHeld) := by
    rw [← occupied]
    simp [b, State.blocksReset]
  have jogger : b.resetNotices.jogger = Jogger.reset (level .liftPresent) (level .pusherHome) (level .curtain) := by
    simp [b, State.blocksReset, seedInputs_on]
  have cycle : b.resetNotices.cycle =
      (Cycle.reset (level .knifeTop && level .clampTop)).refresh (level .handL) (level .handR) := by
    simp [b, State.blocksReset, seedInputs_on]
  have inputs : b.resetNotices.inputs = seedInputs level := by simp [b, State.blocksReset]
  have faults : b.resetNotices.faults = { FaultSet.none with eStop := level .eStop } := by
    simp [b, State.blocksReset, seedInputs_on]
  have store : b.resetNotices.store = st := by simp [b, State.blocksReset]
  refine ⟨?_, ?_, ?_, ?_, ?_, ?_, ?_, ?_, ?_, ?_, infeed, ?_, jogger, ?_, ?_, fun x => ?_, ?_, fun k => ?_, ?_⟩
  · simp [b, State.blocksReset]
  · simp [b, State.blocksReset]
  · simp [b, State.blocksReset]
  · simp [b, State.blocksReset, Bank.cleared]
  · simp [b, State.blocksReset, Bank.cleared]
  · simp [b, State.blocksReset, Runner.reset, Tally.zero]
  · rw [gauge, store]
    rfl
  · rw [State.gaugeTravel, gauge]
    cases valid <;> rfl
  · rw [State.gaugeDirection, gauge]
    rfl
  · rw [cycle, Cycle.reset_refresh]
  · rw [infeed]
    rfl
  · rw [jogger]
    rfl
  · simp [b, State.blocksReset, Arbiter.reset, seedInputs_on]
  · rw [inputs, seedInputs_get]
    rfl
  · simp [b, State.blocksReset]
  · rw [faults]
    exact FaultSet.has_eStop (level .eStop) k
  · rw [link, store]
    exact ⟨rfl, rfl, rfl, rfl, rfl, rfl, rfl, rfl, rfl, ended, by simp [b, State.blocksReset], by simp [b, State.blocksReset]⟩

theorem State.storeAtPower_cases (s : State) :
    s.storeAtPower.write = none ∧ s.storeAtPower.cause = .power ∧
      (s.store.write = none → s.storeAtPower.consts = s.store.consts ∧ s.storeAtPower.classes = s.store.classes) ∧
      (∀ w, s.store.write = some w →
        (s.storeAtPower.consts = s.store.consts ∧ s.storeAtPower.classes = s.store.classes) ∨
          (s.storeAtPower.consts = (s.store.commit w.target).consts ∧
            s.storeAtPower.classes = (s.store.commit w.target).classes)) := by
  unfold State.storeAtPower
  refine ⟨rfl, rfl, fun none_ => ?_, fun w some_ => ?_⟩
  · rw [none_]
    exact ⟨rfl, rfl⟩
  · rw [some_]
    dsimp only
    split
    · exact .inr ⟨rfl, rfl⟩
    · exact .inl ⟨rfl, rfl⟩

/-- Settles O39: both resets put the same blocks, on the levels and readings of their sample. -/
theorem resetsGiveTheResetValues : Obligations.ResetsGiveTheResetValues := by
  unfold Obligations.ResetsGiveTheResetValues
  intro resetTo
  refine ⟨fun contacts signals s => ?_, fun s sent => ?_⟩
  · obtain ⟨ended, cause, kept, cut⟩ := s.storeAtPower_cases
    let u : State := s.powerReset (seedInputs (rawLevel contacts)) (readSignals signals)
    have store : u.store = s.storeAtPower := by simp [u, State.powerReset, State.blocksReset]
    have reset : ResetTo s (rawLevel contacts) (readSignals signals) false 0 u :=
      s.blocksReset_resetTo (rawLevel contacts) (readSignals signals) false 0 s.storeAtPower _ ended
    rw [← store] at cause kept cut
    exact ⟨u, rfl, reset, cause, kept, cut⟩
  · let st : Store := { s.store with write := none, cause := .restart }
    have reset : ResetTo s s.comingLevel s.comingReadings s.gauge.valid s.gauge.position s.restartReset :=
      s.blocksReset_resetTo s.comingLevel s.comingReadings s.gauge.valid s.gauge.position st s.free rfl
    refine ⟨s.restartReset, ?_, reset, by simp [State.restartReset, State.blocksReset]⟩
    simp [exec, execFrameSent, sent]

end Sys2Proof.Machine
end

section
/-! The Input Conditioner (R164 to R167): the samples, the changes and their commands, and the channels' conversion. -/
namespace Sys2Proof.Machine

/-! ### A sample -/

theorem stableCount_eq (c : Consts) (x : Switch) :
    stableCount c x =
      if x ∈ [Switch.curtain, .eStop] then c.nfSafety
      else if x ∈ [Switch.handL, .handR, .stepOk, .jogOk, .resetBtn, .serviceKey] then c.nfOperator
      else c.nfMachine := by
  cases x <;> rfl

/-- Whether the table has a row for a change does not depend on the state. -/
theorem changeOf_isSome (s t : State) (x : Switch) (level : Bool) : (changeOf s x level).isSome = (changeOf t x level).isSome := by
  cases x <;> cases level <;> rfl

theorem State.sampleInputs_inputs_congr {s t : State} (inputs : s.inputs = t.inputs) (consts : s.store.consts = t.store.consts)
    (raw : Switch → Bool) : (s.sampleInputs raw).inputs = (t.sampleInputs raw).inputs := by
  unfold State.sampleInputs
  simp only [setInputs_inputs, inputs, consts, changeOf_isSome s t]

theorem State.tick_inputs (s : State) :
    s.tick.inputs = (s.sampleInputs s.comingLevel).inputs ∧ s.tick.channels = s.comingReadings := by
  have inputs : s.runTimes.inputs = s.inputs := by simp
  have tape : s.runTimes.tape = s.tape := by simp
  have channels : s.runTimes.channels = s.channels := by simp
  have level : s.runTimes.comingLevel = s.comingLevel := by
    funext x
    simp only [State.comingLevel, tape, inputs]
  have readings : s.runTimes.comingReadings = s.comingReadings := by
    simp only [State.comingReadings, tape, channels]
  have consts : s.runTimes.store.consts = s.store.consts := by simp [State.runTimes, Store.tick]
  have sampled := State.sampleInputs_inputs_congr (s := s.runTimes.setChannels s.comingReadings) (t := s) inputs consts s.comingLevel
  have shown : ((s.runTimes.setChannels s.comingReadings).sampleInputs s.comingLevel).channels = s.comingReadings := by simp
  unfold State.tick State.sampleField
  rw [level, readings]
  dsimp only
  split
  · exact ⟨sampled, shown⟩
  · exact ⟨sampled, shown⟩

/-- NF samples in a row that differ, and no fewer, bring a change. -/
theorem InputState.sample_replicate {i : InputState} {nf : Nat} (fresh : i.count = 0) (top : nf ≤ 15) (k : Nat) (low : 1 ≤ k)
    (high : k ≤ nf) :
    (List.replicate k (!i.filtered)).foldl (fun j raw => j.sample raw nf false true) i =
      ⟨!i.filtered, i.filtered, k, decide (k = nf)⟩ := by
  have differs (n c : Nat) (r d : Bool) (hn : n = min (c + 1) 15) :
      InputState.sample ⟨r, i.filtered, c, d⟩ (!i.filtered) nf false true = ⟨!i.filtered, i.filtered, n, decide (nf ≤ n)⟩ := by
    subst hn
    simp [InputState.sample]
  induction k, low using Nat.le_induction with
  | base =>
    obtain ⟨r, f, c, d⟩ := i
    subst fresh
    refine (differs 1 0 r d rfl).trans ?_
    have : (nf ≤ 1) = (1 = nf) := by
      apply propext
      omega
    simp only [this]
  | succ k hk ih =>
    rw [List.replicate_succ', List.foldl_append, ih (by omega)]
    refine (differs (k + 1) k _ _ (by omega)).trans ?_
    have : (nf ≤ k + 1) = (k + 1 = nf) := by
      apply propext
      omega
    simp only [this]

/-! ### The change due -/

theorem findSome?_only {α β : Type} {f : α → Option β} {xs : List α} {x : α} {b : β} (mem : x ∈ xs) (here : f x = some b)
    (others : ∀ y, y ≠ x → f y = none) : xs.findSome? f = some b := by
  induction xs with
  | nil => cases mem
  | cons y ys ih =>
    by_cases same : y = x
    · rw [same, List.findSome?_cons, here]
    · rw [List.findSome?_cons, others y same]
      exact ih ((List.mem_cons.1 mem).resolve_left fun e => same e.symm)

theorem mem_allSwitches (x : Switch) : x ∈ allSwitches := by
  cases x <;> decide

theorem changeEvent_only {s : State} {x : Switch} {c : Instr} (due : (s.inputs.get x).due = true)
    (differs : (s.inputs.get x).raw ≠ (s.inputs.get x).filtered) (others : ∀ y, y ≠ x → (s.inputs.get y).due = false)
    (row : changeOf s x (s.inputs.get x).raw = some c) : changeEvent s = some c := by
  refine findSome?_only (mem_allSwitches x) ?_ fun y ne => ?_
  · simp [due, differs, row]
  · simp [others y ne]

theorem changeEvent_none {s : State} (quiet : ∀ x, (s.inputs.get x).due = false) : changeEvent s = none := by
  refine List.findSome?_eq_none_iff.2 fun x _ => ?_
  simp [quiet x]

theorem exec_on {c : Instr} {s t : State} (h : exec c s = .next t) (x : Switch) : t.on x = (ownEffect c s).on x := by
  rcases exec_next h with rfl | rfl
  · simp [State.on]
  · simp [State.on]

theorem State.on_congr {s t : State} (h : s.inputs = t.inputs) (x : Switch) : s.on x = t.on x := by
  rw [State.on, State.on, h]

/-- An input taken again at the level it has changes none. -/
theorem State.sense_on_same {s : State} {x : Switch} {level : Bool} (h : s.on x = level) (y : Switch) :
    (s.sense x level).on y = s.on y := by
  rw [State.sense_on]
  split
  · next same => rw [same, h]
  · rfl

/-- A change's command carried out gives the input its level and changes no other. -/
theorem changeOf_carried {s : State} {x : Switch} {level : Bool} {c : Instr} (row : changeOf s x level = some c) (y : Switch) :
    (ownEffect c s).on y = if y = x then level else s.on y := by
  rw [← State.sense_on]
  have motionDone (unit : InfeedUnit) (ream : s.on .reamHeld = (s.sense (unitDone unit) true).on .reamHeld) :
      (ownEffect (.motionDone unit (s.on .reamHeld) s.channels.pileTop) s).on y = (s.sense (unitDone unit) true).on y := by
    refine Eq.trans (State.on_congr ?_ y) (State.sense_on_same ream.symm y)
    simp only [ownEffect]
    split
    · cases unit <;> simp
    · simp
  cases x <;> cases level <;> cases row
  case jogOk.true.refl =>
    have lift : (s.sense .jogOk true).on .liftPresent = s.on .liftPresent := s.sense_on_other _ _ _ (by decide)
    exact (State.on_congr (by simp [ownEffect]) y).trans (State.sense_on_same lift y)
  case resetBtn.true.refl =>
    have knife : (s.sense .resetBtn true).on .knifeTop = s.on .knifeTop := s.sense_on_other _ _ _ (by decide)
    have clamp : (s.sense .resetBtn true).on .clampTop = s.on .clampTop := s.sense_on_other _ _ _ (by decide)
    have viewed : (ownEffect (.resetBtn s.fieldView) s).inputs =
        (((s.sense .resetBtn true).sense .knifeTop (s.on .knifeTop)).sense .clampTop (s.on .clampTop)).inputs := by
      simp [ownEffect, State.view, State.fieldView]
    refine (State.on_congr viewed y).trans ((State.sense_on_same ?_ y).trans (State.sense_on_same knife y))
    rw [State.sense_on_same knife, clamp]
  case curtain.true.refl => exact State.on_congr s.breakCurtain_fields.2.1 y
  case turnerDone.true.refl => exact motionDone .turner (s.sense_on_other .turnerDone .reamHeld true (by decide)).symm
  case liftDone.true.refl => exact motionDone .lift (s.sense_on_other .liftDone .reamHeld true (by decide)).symm
  all_goals
    refine State.on_congr ?_ y
    simp only [ownEffect] <;> (repeat' split) <;> simp [handSwitch, State.clearCurtain]

/-! ### The conversion -/

/-- A quotient, or the next number above it where something is left. -/
theorem quotient_bounds (m e : Nat) (h : e = 0 ∨ (e = 1 ∧ m % 10000000000 ≠ 0)) :
    ((m / 10000000000 + e : Nat) : Int) * 10000000000 < m + 10000000000 ∧
      (m : Int) < ((m / 10000000000 + e : Nat) : Int) * 10000000000 + 10000000000 := by
  omega

theorem convert_between {top : Nat} {v : Int} (low : 0 ≤ v) (high : v ≤ 10000000000) :
    (convert top v : Int) * 10000000000 < v * top + 10000000000 ∧
      v * top < (convert top v : Int) * 10000000000 + 10000000000 := by
  unfold convert fullScale
  split
  · have : v = 0 := by omega
    simp [this]
  · split
    · have : v = 10000000000 := by omega
      subst this
      constructor <;> linarith
    · obtain ⟨n, rfl⟩ := Int.eq_ofNat_of_zero_le low
      have rounded (up : Bool) : ((n * top / 10000000000 +
            if n * top % 10000000000 ≠ 0 && up then 1 else 0 : Nat) : Int) * 10000000000 < (n * top : Nat) + 10000000000 ∧
          ((n * top : Nat) : Int) < ((n * top / 10000000000 +
            if n * top % 10000000000 ≠ 0 && up then 1 else 0 : Nat) : Int) * 10000000000 + 10000000000 := by
        refine quotient_bounds (n * top) _ ?_
        split
        · next rounds => exact .inr ⟨rfl, (by simpa using rounds : _ ∧ _).1⟩
        · exact .inl rfl
      have both := rounded (Config.conversionRoundsUp top n)
      push_cast at both
      push_cast
      exact both

/-- Settles O40: the filter by its cases, the change due and its command, and the conversion. -/
theorem inputsAreFiltered : Obligations.InputsAreFiltered := by
  refine ⟨fun s raw x => ?_, fun s x c due differs others row => changeEvent_only due differs others row,
    fun s quiet => changeEvent_none quiet, fun s t x level c row h => ?_,
    fun i nf k fresh low high top => InputState.sample_replicate fresh top k low high, fun s => ?_, fun top v => ?_⟩
  · intro i j nf n
    have sampled : j = i.sample (raw x) nf (x = .eStop && raw x) (changeOf s x (raw x)).isSome := by
      have got := s.sampleInputs_get raw x
      rw [stableCount_eq] at got
      exact got
    have opens : (decide (x = .eStop) && raw x) = true ↔ x = .eStop ∧ raw x = true := by simp
    have rowed_ : (changeOf s x (raw x)).isSome = true ↔ changeOf s x (raw x) ≠ none := Option.isSome_iff_ne_none
    rw [sampled]
    rcases i.sample_cases (raw x) nf (x = .eStop && raw x) (changeOf s x (raw x)).isSome with
      ⟨agrees, made⟩ | ⟨differs, short, shut, made⟩ | ⟨differs, over_, bare, made⟩ | ⟨differs, over_, rowed, made⟩
    · exact ⟨fun _ => made, fun no => absurd agrees no, fun no => absurd agrees no⟩
    · refine ⟨fun no => absurd no differs, fun _ _ _ => made, fun _ reached => ?_⟩
      rcases reached with reached | opening
      · exact absurd short (Nat.not_lt.2 reached)
      · rw [opens.2 opening] at shut
        cases shut
    · refine ⟨fun no => absurd no differs, fun _ short shut => ?_, fun _ _ => ⟨fun _ => made, fun row => ?_⟩⟩
      · rcases over_ with reached | opening
        · exact absurd short (Nat.not_lt.2 reached)
        · exact absurd (opens.1 opening) shut
      · rw [rowed_.2 row] at bare
        cases bare
    · refine ⟨fun no => absurd no differs, fun _ short shut => ?_, fun _ _ => ⟨fun none_ => ?_, fun _ => made⟩⟩
      · rcases over_ with reached | opening
        · exact absurd short (Nat.not_lt.2 reached)
        · exact absurd (opens.1 opening) shut
      · exact absurd none_ (rowed_.1 rowed)
  · refine ⟨?_, fun y ne => ?_⟩
    · rw [exec_on h, changeOf_carried row, if_pos rfl]
    · rw [exec_on h, changeOf_carried row, if_neg ne]
  · obtain ⟨inputs, channels⟩ := s.tick_inputs
    refine ⟨fun tape => ?_, fun y rest tape => ?_⟩
    · have level : s.comingLevel = fun x => (s.inputs.get x).raw := by
        funext x
        simp only [State.comingLevel, tape]
      rw [inputs, channels, level]
      exact ⟨rfl, by simp only [State.comingReadings, tape]⟩
    · have level : s.comingLevel = rawLevel y.contacts := by
        funext x
        simp only [State.comingLevel, tape]
      rw [inputs, channels, level]
      exact ⟨rfl, by simp only [State.comingReadings, tape]; rfl⟩
  · refine ⟨fun low => if_pos low, fun high => ?_, convert_between⟩
    rw [convert, if_neg (by omega), if_pos (by exact high)]

end Sys2Proof.Machine
end

section
/-! The Gauge Axis's events (R81, R84, R85, R91 to R93, R97, R99). -/
namespace Sys2Proof.Machine

/-! ### The reference run -/

theorem Gauge.home_eq (g : Gauge) (r : RefRun) :
    let halted : Bool := g.state = .paused
    g.home r =
      { g with
        state := if halted then .paused else .moving
        phase := some .approach
        valid := true
        position := r.ph
        move := some ⟨none, r.gmax, none, false, r.backlash, r.gmax, r.wPos, r.settle⟩
        corrective := 0
        searchTimer := { g.searchTimer with running := false }
        stallTimer := if halted then Timer.stopped else ⟨true, 0, 200⟩
        clearTimer := if halted then g.clearTimer else Timer.stopped
        driven := g.driven || !halted } := rfl

/-- Settles O42: the home switch in SEARCH, and the two faults of the axis. -/
theorem referenceRunEvents : Obligations.ReferenceRunEvents := by
  intro s
  have home : exec .homeSwitchActive s = .next ((s.sense .homeSwitch true).setGauge s.gauge.homeReached).transmit := by
    simp only [exec, execHomeSwitchActive, State.sense_frame]
  have limit : exec .searchLimitExpiry s =
      .next (if s.gauge.state = .referencing && s.gauge.phase = some .search then s.axisFault .referenceFail false
        else s).transmit := rfl
  have stall : exec .encoderStall s =
      .next (if s.gauge.stallTimer.running then s.axisFault .encoderStall false else s).transmit := rfl
  refine ⟨fun r phase run => ?_, fun other => ?_, fun searching phase clear => ?_, fun other => ?_, fun running clear => ?_,
    fun still => ?_⟩
  · intro halted
    have reached : s.gauge.homeReached = s.gauge.home r := by simp only [Gauge.homeReached, phase, run]
    rw [reached] at home
    exact ⟨_, home, by simp [SameBut], s.sense_on_self .homeSwitch true,
      fun x ne => s.sense_on_other .homeSwitch x true ne, s.gauge.home_eq r⟩
  · have stays : s.gauge.homeReached = s.gauge := by
      unfold Gauge.homeReached
      split
      · next phase run =>
        rcases other with h | h
        · exact absurd phase h
        · rw [run] at h
          cases h
      · rfl
    have gauge : (s.sense .homeSwitch true).gauge = s.gauge := by simp
    rw [home, stays, ← gauge]
    rfl
  · rw [if_pos (by simp [searching, phase])] at limit
    exact ⟨_, limit, s.axisFault_faults .referenceFail false clear rfl⟩
  · rw [limit, if_neg]
    rcases other with h | h <;> simp [h]
  · rw [if_pos running] at stall
    exact ⟨_, stall, s.axisFault_faults .encoderStall false clear rfl⟩
  · rw [stall, still]
    rfl

/-! ### The encoder -/

/-- The gauge with one more step counted, wherever it stands. -/
def Gauge.stepped (g : Gauge) (p : Int) : Gauge := { g with position := p, stallTimer := { g.stallTimer with elapsed := 0 } }

theorem Gauge.count_eq {g : Gauge} {dir : EncoderDir} {p : Int} (low : -500000 < g.position) (high : g.position < 500000)
    (hp : p = match dir with | .rearward => g.position + 1 | .forward => g.position - 1) :
    g.count dir = (g.stepped p).arrive := by
  have stepped : stepPosition g.position dir = p := by
    subst hp
    cases dir
    · simp only [stepPosition]
      omega
    · simp only [stepPosition]
      omega
  rw [Gauge.count, stepped]
  rfl

theorem Gauge.arrive_keeps (g : Gauge) : g.arrive.position = g.position ∧ g.arrive.valid = g.valid ∧ g.arrive.gminStd = g.gminStd := by
  unfold Gauge.arrive
  split
  · split
    · unfold Gauge.approach
      split <;> exact ⟨rfl, rfl, rfl⟩
    · exact ⟨rfl, rfl, rfl⟩
  · split <;> exact ⟨rfl, rfl, rfl⟩
  · exact ⟨rfl, rfl, rfl⟩

theorem Gauge.arrive_resting {g : Gauge} (h : g.state ≠ .moving) : g.arrive = g := by
  unfold Gauge.arrive
  split
  · next moving _ _ => exact absurd moving h
  · next moving _ _ => exact absurd moving h
  · rfl

section
variable {g : Gauge} {m : Move} (moving : g.state = .moving) (move : g.move = some m)
include moving move

theorem Gauge.arrive_overshoot (phase : g.phase = some .overshoot) :
    g.arrive = if m.overshoot.getD m.target ≤ g.position then g.approach m else g := by
  simp only [Gauge.arrive, moving, move, phase]

theorem Gauge.arrive_approach (phase : g.phase = some .approach) :
    g.arrive = if g.position ≤ m.target then g.settleOn m else g := by
  simp only [Gauge.arrive, moving, move, phase]

end

/-- A gauge that a fault interrupts keeps position and reference, and does not travel. -/
theorem Gauge.interrupted_keeps (g : Gauge) : g.interrupted.position = g.position ∧ g.interrupted.valid = g.valid := by
  unfold Gauge.interrupted
  split <;> exact ⟨rfl, rfl⟩

theorem GuillotineFault.gauge_stands {b u : State} {f : FaultSet} (h : GuillotineFault b u f) :
    u.gauge.position = b.gauge.position ∧ u.gauge.valid = b.gauge.valid ∧ u.gauge.inMotion = false ∧ u.gaugeTravel = false := by
  obtain ⟨-, -, -, gauge, -⟩ := h
  have rests := b.gauge.interrupted_rests
  have ⟨notSearching, notMoving⟩ := Gauge.interrupted_travel rests
  rw [State.gaugeTravel, gauge]
  exact ⟨b.gauge.interrupted_keeps.1, b.gauge.interrupted_keeps.2, rests, by simp [notSearching, notMoving]⟩

theorem State.latch_plateRemoved {b : State} (clear : b.faults.plateRemoved = false) :
    GuillotineFault b (b.latch .plateRemoved) { b.faults with plateRemoved := true } :=
  b.latch_guillotine .plateRemoved clear rfl

/-- PLATE_FITTED_INACTIVE: the plate lost below Gmin_std, or the input alone. -/
theorem plateFittedInactive_effect (s : State) :
    (s.on .plateFitted = true → s.gauge.valid = true → s.gauge.position < s.gauge.gminStd →
      s.faults.plateRemoved = false →
      ∃ u : State, exec .plateFittedInactive s = .next u.transmit ∧
        GuillotineFault (s.sense .plateFitted false) u { s.faults with plateRemoved := true } ∧
        u.on .plateFitted = false ∧ u.gauge.position = s.gauge.position ∧ u.gauge.valid = true ∧
        u.gauge.inMotion = false ∧ u.gaugeTravel = false) ∧
    (s.gauge.valid = false ∨ (s.gauge.gminStd : Int) ≤ s.gauge.position ∨ s.on .plateFitted = false ∨
        s.faults.plateRemoved = true →
      exec .plateFittedInactive s = .next (s.sense .plateFitted false).transmit) := by
  let b : State := s.sense .plateFitted false
  have gauge : b.gauge = s.gauge := by simp [b]
  have faults : b.faults = s.faults := by simp [b]
  have runs : exec .plateFittedInactive s = .next (if s.plateLost then b.latch .plateRemoved else b).transmit := rfl
  have lost : s.plateLost = true ↔ s.on .plateFitted = true ∧ s.gauge.valid = true ∧ s.gauge.position < s.gauge.gminStd := by
    simp [State.plateLost, and_assoc]
  refine ⟨fun fitted valid below clear => ?_, fun other => ?_⟩
  · rw [if_pos (lost.2 ⟨fitted, valid, below⟩)] at runs
    have fault := State.latch_plateRemoved (b := b) (by rw [faults]; exact clear)
    rw [faults] at fault
    obtain ⟨position, valid_, rests, travel⟩ := fault.gauge_stands
    rw [gauge] at position valid_
    exact ⟨_, runs, fault, (fault.1.on _).trans (s.sense_on_self .plateFitted false), position, valid_.trans valid, rests, travel⟩
  · rw [runs]
    by_cases h : s.plateLost = true
    · obtain ⟨fitted, valid, below⟩ := lost.1 h
      have latched : s.faults.plateRemoved = true := by
        rcases other with h | h | h | h
        · rw [valid] at h
          cases h
        · omega
        · rw [fitted] at h
          cases h
        · exact h
      rw [if_pos h, State.latch_of_has (s := b) (k := .plateRemoved) (by rw [faults]; exact latched)]
    · rw [if_neg h]

/-- Settles O43: the count and the commanded travel's end, and the two ways below Gmin_std without the plate. -/
theorem encoderStepsMoveThePosition : Obligations.EncoderStepsMoveThePosition := by
  unfold Obligations.EncoderStepsMoveThePosition
  intro counted s
  refine ⟨fun dir p low high hp => ?_, plateFittedInactive_effect s⟩
  let b : State := s.setGauge (s.gauge.count dir)
  have count : b.gauge = (s.gauge.stepped p).arrive := Gauge.count_eq low high hp
  obtain ⟨position, valid, gminStd⟩ := (s.gauge.stepped p).arrive_keeps
  rw [← count] at position valid gminStd
  have runs : exec (.encoderStep dir) s = .next (if b.plateCrossed s.gauge.position then b.latch .plateRemoved else b).transmit := rfl
  have crossed : b.plateCrossed s.gauge.position = true ↔
      s.gauge.valid = true ∧ s.on .plateFitted = false ∧ (s.gauge.gminStd : Int) ≤ s.gauge.position ∧ p < s.gauge.gminStd := by
    have plate : b.on .plateFitted = s.on .plateFitted := rfl
    have gminStd_ : b.gauge.gminStd = s.gauge.gminStd := gminStd
    have valid_ : b.gauge.valid = s.gauge.valid := valid
    have position_ : b.gauge.position = p := position
    simp [State.plateCrossed, plate, gminStd_, valid_, position_, and_assoc]
  refine ⟨b, by simp [SameBut, b], ?_, position, valid, fun other => ?_, fun valid_ off above below clear => ?_⟩
  · rw [count]
    refine ⟨fun rests => Gauge.arrive_resting rests, fun m moving move phase => ?_, fun m moving move phase => ?_⟩
    · have arrives := Gauge.arrive_overshoot (g := s.gauge.stepped p) moving move phase
      rw [arrives]
      refine ⟨fun short => if_neg (Int.not_le.2 short), fun there front => ?_, fun there reached => ?_⟩
      · rw [if_pos (show m.overshoot.getD m.target ≤ (s.gauge.stepped p).position from there), Gauge.approach,
          if_pos (show m.target < (s.gauge.stepped p).position from front)]
        simp [Gauge.go, Gauge.stepped, moving, Timer.start, stallMs]
      · rw [if_pos (show m.overshoot.getD m.target ≤ (s.gauge.stepped p).position from there), Gauge.approach,
          if_neg (Int.not_lt.2 (show (s.gauge.stepped p).position ≤ m.target from reached))]
        rfl
    · have arrives := Gauge.arrive_approach (g := s.gauge.stepped p) moving move phase
      rw [arrives]
      exact ⟨fun front => if_neg (Int.not_le.2 front), fun reached => if_pos reached⟩
  · rw [runs]
    by_cases h : b.plateCrossed s.gauge.position = true
    · obtain ⟨valid_, off, above, below⟩ := crossed.1 h
      have latched : s.faults.plateRemoved = true := by
        rcases other with h | h | h | h | h
        · rw [valid_] at h
          cases h
        · rw [off] at h
          cases h
        · omega
        · omega
        · exact h
      rw [if_pos h, State.latch_of_has (s := b) (k := .plateRemoved) latched]
    · rw [if_neg h]
  · rw [if_pos (crossed.2 ⟨valid_, off, above, below⟩)] at runs
    have fault := State.latch_plateRemoved (b := b) clear
    obtain ⟨position_, valid__, rests, travel⟩ := fault.gauge_stands
    exact ⟨_, runs, fault, position_.trans position, valid__.trans (valid.trans valid_), rests, travel⟩

/-! ### The in-position check -/

theorem inWindow_iff {m : Move} {p : Int} : inWindow m p = true ↔ (p - m.target).natAbs ≤ m.wPos := by
  simp [inWindow]

theorem State.moveReported_frame_sameBut (s : State) (m : MoveResult) : SameBut [.link, .runner] s (s.moveReported m) := by
  simp [SameBut]

/-- A completed move as the Runner takes it, by what it has asked. -/
theorem State.moveReported_cases (s : State) (m : MoveResult) :
    (s.runner.asked = none → (s.moveReported m).runner = s.runner ∧ (s.moveReported m).link = s.link) ∧
    (∀ l, s.runner.asked = some (.handover l) →
      (s.moveReported m).runner = { s.runner with asked := none, park := some l } ∧ (s.moveReported m).link = s.link) ∧
    (s.runner.asked = some .step → s.runner.inPhase .positioning = true →
      (s.moveReported m).runner = { s.runner with asked := none, moveResult := some m, phase := some .awaitStart } ∧
        (s.moveReported m).link = s.link) ∧
    (∀ t, s.runner.asked = some .step → s.runner.inPhase .parking = true → s.theStep = some t →
      (s.moveReported m).runner = { s.runner with asked := none, moveResult := some m, phase := some .awaitConfirm } ∧
        (s.moveReported m).link = s.link.offer (.wait (.stepOk t.action.kind))) := by
  unfold State.moveReported
  refine ⟨fun none_ => ?_, fun l handover => ?_, fun step positioning => ?_, fun t step parking here => ?_⟩
  · rw [none_]
    exact ⟨rfl, rfl⟩
  · rw [handover]
    exact ⟨rfl, rfl⟩
  · rw [step]
    dsimp only
    rw [if_pos (by exact positioning)]
    exact ⟨rfl, rfl⟩
  · have notPositioning : s.runner.inPhase .positioning = false := by
      unfold Runner.inPhase at parking ⊢
      simp only [Bool.and_eq_true, decide_eq_true_eq] at parking
      simp [parking.2]
    let u : State := (s.setRunner { s.runner with asked := none, moveResult := some m }).setPhase .awaitConfirm
    have there : u.theStep = some t := here
    rw [step]
    dsimp only
    rw [if_neg (by exact Bool.eq_false_iff.1 notPositioning), if_pos (by exact parking)]
    change (match u.theStep with | some t => u.await (.stepOk t.action.kind) | none => u).runner = _ ∧
      (match u.theStep with | some t => u.await (.stepOk t.action.kind) | none => u).link = _
    rw [there]
    exact ⟨rfl, rfl⟩

/-- A move that starts is under way, or settles at once. -/
theorem Gauge.travel_inMotion (g : Gauge) (m : Move) (paused : Bool) : (g.travel m paused).inMotion = true := by
  simp only [Gauge.travel]
  split
  · cases paused <;> rfl
  · split
    · cases paused <;> rfl
    · rfl

theorem State.startMove_gauge (s : State) (req : MoveReq) :
    (s.startMove req).gauge.refRun = s.gauge.refRun ∧ (s.startMove req).gauge.pendingMove = none ∧
      (s.startMove req).gauge.corrective = 0 ∧ (s.startMove req).gauge.inMotion = true := by
  have refRun (g : Gauge) (m : Move) (paused : Bool) : (g.travel m paused).refRun = g.refRun := by
    simp only [Gauge.travel]
    split
    · rfl
    · split <;> rfl
  obtain ⟨-, -, -, corrective, pending⟩ := Gauge.travel_keeps
    { s.gauge with corrective := 0, pendingMove := none, gminStd := s.store.consts.gminStd }
    (moveOf s.store.consts (s.on .plateFitted) s.gauge.position req) (s.on .curtain || s.gauge.state = .paused)
  exact ⟨refRun _ _ _, pending, corrective, Gauge.travel_inMotion _ _ _⟩

/-- The end of a reference run, with its notice. -/
def State.runDone (s : State) (r : RefRun) : State :=
  (s.setGauge { s.gauge with state := .idle, move := none, refRun := none, settleTimer := Timer.stopped }).refNotice r .done

theorem State.inPosition_run {s : State} {r : RefRun} (run : s.gauge.refRun = some r) (m : Move) :
    s.inPosition m =
      match (s.runDone r).gauge.pendingMove with
      | some req => (s.runDone r).startMove req
      | none => s.runDone r := by
  simp only [State.inPosition, run] <;> rfl

theorem settleExpiry_runs {s : State} {m : Move} (settling : s.gauge.state = .settling) (move : s.gauge.move = some m) :
    exec .settleExpiry s = .next (if inWindow m s.gauge.position then s.inPosition m else s.correct m).finish := by
  simp only [exec, execSettleExpiry, State.checkPosition, settling, move]

/-- A corrective move: only the overshoot point is taken anew. -/
theorem State.correct_again {s : State} {m : Move} (out : m.wPos < (s.gauge.position - m.target).natAbs) (few : s.gauge.corrective < 2) :
    (s.correct m) =
      s.setGauge
        { s.gauge with
          state := if s.on .curtain then .paused else .moving
          phase := some (if s.gauge.position < m.target then .overshoot else .approach)
          corrective := s.gauge.corrective + 1
          settleTimer := Timer.stopped
          stallTimer := if s.on .curtain then Timer.stopped else ⟨true, 0, 200⟩
          clearTimer := if s.on .curtain then s.gauge.clearTimer else Timer.stopped
          driven := s.gauge.driven || !s.on .curtain
          move :=
            some
              { m with
                overshoot :=
                  if s.gauge.position < m.target then some (min (m.target + m.backlash) m.gmax) else none } } := by
  have away : s.gauge.position ≠ m.target := by
    intro same
    simp [same] at out
  rw [State.correct, if_pos (show s.gauge.corrective < maxCorrective from few)]
  refine congrArg s.setGauge ?_
  simp only [Gauge.travel]
  rcases lt_or_gt_of_ne away with behind | front
  · rw [if_pos behind, if_pos behind, overshootPoint, if_pos behind]
    rfl
  · have notBehind : ¬ s.gauge.position < m.target := Int.not_lt.2 (Int.le_of_lt front)
    rw [if_neg notBehind, if_pos front, if_neg notBehind, overshootPoint, if_neg notBehind]
    rfl

/-- Settles O44: in position, for a move and for a reference run, and out of it, with corrective moves left and without. -/
theorem settleExpiryChecksTheWindow : Obligations.SettleExpiryChecksTheWindow := by
  intro s m settling move
  have runs := settleExpiry_runs settling move
  refine ⟨fun near => ?_, fun out => ⟨fun few => ?_, fun many clear => ?_⟩⟩
  · rw [if_pos (inWindow_iff.2 near)] at runs
    refine ⟨fun noRun => ?_, fun r run none_ => ?_, fun r req run pending => ?_⟩
    · let b : State :=
        s.setGauge
          { s.gauge with
            state := .idle
            move := none
            last := some ⟨m.limited, m.target, s.gauge.position⟩
            settleTimer := Timer.stopped }
      have takes : s.inPosition m = b.moveReported ⟨m.limited, m.target, s.gauge.position⟩ := by
        unfold State.inPosition
        split
        · rfl
        · next run =>
          rw [noRun] at run
          cases run
      have frame := b.moveReported_frame_sameBut ⟨m.limited, m.target, s.gauge.position⟩
      rw [takes] at runs
      exact ⟨_, runs, SameBut.trans (t := b) (by simp [SameBut, b]) frame.mono, frame.gauge,
        b.moveReported_cases ⟨m.limited, m.target, s.gauge.position⟩⟩
    · have ends : s.inPosition m = s.runDone r := by
        rw [State.inPosition_run run, show (s.runDone r).gauge.pendingMove = none from none_]
      rw [ends] at runs
      exact ⟨_, runs, by simp [SameBut, State.runDone, State.refNotice, State.notify], rfl, rfl⟩
    · intro rests
      have ends : s.inPosition m = (s.runDone r).startMove req := by
        rw [State.inPosition_run run, show (s.runDone r).gauge.pendingMove = some req from pending]
      obtain ⟨refRun, pending_, corrective, motion⟩ := (s.runDone r).startMove_gauge req
      rw [ends] at runs
      refine ⟨_, runs, ?_, rfl, refRun, pending_, corrective, (s.runDone r).startMove_move req, motion, ?_⟩
      · simp [SameBut, State.runDone, State.refNotice, State.notify]
      · exact ((s.runDone r).startMove_sameBut req).link
  · rw [if_neg (fun h => Nat.not_le.2 out (inWindow_iff.1 h)), State.correct_again out few] at runs
    exact ⟨_, runs, by simp [SameBut], rfl⟩
  · rw [if_neg (fun h => Nat.not_le.2 out (inWindow_iff.1 h)), State.correct,
      if_neg (show ¬ s.gauge.corrective < maxCorrective from Nat.not_lt.2 many)] at runs
    exact ⟨_, runs, s.axisFault_faults .gaugePosition s.gauge.valid clear rfl⟩

end Sys2Proof.Machine
end

section
/-! STEP_OK and the table switches: the end of a TURN, a RECALL and a take-away (R65, R67, R70, R72 to R78). -/
namespace Sys2Proof.Machine

/-! ### Take-aways counted (R16, R74) -/

theorem Tally.countTake_eq (t : Tally) (d : Disposition) :
    t.countTake d =
      { t with outputs := t.outputs + (if d = .output then 1 else 0), waste := t.waste + (if d = .waste then 1 else 0) } := by
  cases d <;> rfl

/-- An OUTPUT just counted is the first one exactly where none was counted before it. -/
theorem State.inspectFirst_of_counted (b : State) (d : Disposition) (before : Tally)
    (counted : b.runner.tally = before.countTake d) :
    let first : Bool := d = .output && before.outputs = 0 && b.firstOffJob
    b.inspectFirst d =
      (b.setRunner { b.runner with firstOff := b.runner.firstOff || first }).setLink
        (if first then b.link.offer (.wait .inspect) else b.link) := by
  intro first
  have firstOne : (d = .output && b.runner.tally.outputs = 1 && b.firstOffJob) = first := by
    rw [counted]
    cases d <;> simp [first, Tally.countTake]
  unfold State.inspectFirst
  rw [firstOne]
  cases first
  · simp only [Bool.or_false]
    rfl
  · simp only [Bool.or_true]
    rfl

theorem State.stepNotice_of_lift (s : State) (t : CutStep) (r : StepResult) (m : MoveResult) {l : CurrentLift}
    (lift : s.runner.lift = some l) : s.stepNotice t r m = s.notify (.step l.job l.lift t.index t.action.kind r m) := by
  unfold State.stepNotice
  rw [lift]

/-- The take-away of a CUT step ends as R70 and R74 give. -/
theorem State.endTakeaway_completes (s : State) (t : CutStep) (c : CutOff) {l : CurrentLift} (lift : s.runner.lift = some l) :
    let first : Bool := c.disp = .output && s.runner.tally.outputs = 0 && s.firstOffJob
    let done : Link :=
      s.link.offer (.step l.job l.lift t.index t.action.kind .done (s.runner.moveResult.getD ⟨false, 0, 0⟩))
    StepCompletes
      ((s.setRunner
        { s.runner with
          cutoff := none
          aside :=
            if c.disp = .aside then
              s.runner.aside ++
                [⟨c.stack.job, c.stack.lift, c.stack.strip, c.stack.along, c.stack.across, c.stack.height, c.stack.orient⟩]
            else s.runner.aside
          tally :=
            { s.runner.tally with
              outputs := s.runner.tally.outputs + (if c.disp = .output then 1 else 0)
              waste := s.runner.tally.waste + (if c.disp = .waste then 1 else 0) }
          firstOff := s.runner.firstOff || first }).setLink
        (if first then done.offer (.wait .inspect) else done)) (s.endTakeaway t c) := by
  intro first done
  unfold State.endTakeaway
  dsimp only
  rw [State.stepNotice_of_lift _ t .done _ (by exact lift)]
  rw [State.inspectFirst_of_counted _ c.disp s.runner.tally rfl]
  rw [← Tally.countTake_eq]
  exact State.completeStep_completes _

/-- The take-away of a TAKE step ends as R73 and R74 give. -/
theorem State.endTake_completes (s : State) (t : CutStep) (d : TakeDisposition) {l : CurrentLift}
    (action : t.action = .take d) (lift : s.runner.lift = some l) :
    let first : Bool := d = .output && s.runner.tally.outputs = 0 && s.firstOffJob
    let done : Link := s.link.offer (.step l.job l.lift t.index .take .done ⟨false, 0, 0⟩)
    StepCompletes
      ((s.setRunner
        { s.runner with
          working := none
          takeOk := false
          tally :=
            { s.runner.tally with
              outputs := s.runner.tally.outputs + (if d = .output then 1 else 0)
              waste := s.runner.tally.waste + (if d = .waste then 1 else 0) }
          firstOff := s.runner.firstOff || first }).setLink
        (if first then done.offer (.wait .inspect) else done)) (s.endTake t d) := by
  intro first done
  unfold State.endTake
  dsimp only
  rw [State.stepNotice_of_lift _ t .done _ (by exact lift), action]
  rw [State.inspectFirst_of_counted _ d.disp s.runner.tally rfl]
  cases d <;> exact State.completeStep_completes _

/-! ### STEP_OK (R72, R73, R78) -/

theorem State.confirmStep_completes (s : State) (t : CutStep) {l : CurrentLift} (lift : s.runner.lift = some l) :
    StepCompletes
      (s.setLink (s.link.offer
        (.step l.job l.lift t.index t.action.kind .done (s.runner.moveResult.getD ⟨false, 0, 0⟩)))) (s.confirmStep t) := by
  unfold State.confirmStep
  rw [s.stepNotice_of_lift t .done _ lift]
  exact State.completeStep_completes _

theorem widthAgrees_iff (tolerance expected measured : Nat) :
    widthAgrees tolerance expected measured = true ↔ expected ≤ measured + tolerance ∧ measured ≤ expected + tolerance := by
  simp [widthAgrees, and_comm]

theorem stackAfterTurn_eq (w : StackRec) (k : TurnKind) (strip : Nat) :
    stackAfterTurn w k strip =
      ⟨w.job, w.lift, strip, if k = .half then w.along else w.across, if k = .half then w.across else w.along, w.height,
        w.orient.turn k, w.partialCut⟩ := by
  cases k <;> rfl

/-- The state of the inputs as STEP_OK leaves them. -/
def State.okSensed (s : State) (w : Nat) : State :=
  (s.sense .stepOk true).setChannels { s.channels with widthProbe := w }

theorem exec_stepOk (w : Nat) (s : State) : exec (.stepOk w) s = .next ((s.okSensed w).stepOk w).finish := rfl

theorem State.okSensed_on (s : State) (w : Nat) {x : Switch} (other : x ≠ .stepOk) : (s.okSensed w).on x = s.on x :=
  s.sense_on_other _ _ _ other

theorem State.stepOk_of_confirm (s : State) (w : Nat) {t : CutStep} (phase : s.runner.inPhase .awaitConfirm = true)
    (step : s.theStep = some t) :
    (s.okSensed w).stepOk w =
      match t.action with
      | .turn kind => (s.okSensed w).confirmTurn t kind w
      | .recall => (s.okSensed w).confirmRecall t w
      | .take _ => if s.on .loadInPlace then s.okSensed w else (s.okSensed w).setRunner { s.runner with takeOk := true }
      | .cut _ _ _ => s.okSensed w := by
  obtain ⟨state, phase⟩ : s.runner.state = .running ∧ s.runner.phase = some .awaitConfirm := by
    simpa [Runner.inPhase] using phase
  have runner : (s.okSensed w).runner = s.runner := by simp [State.okSensed]
  have same : (s.okSensed w).theStep = some t := step
  rw [State.stepOk, runner, state]
  change (if s.runner.phase = some .awaitConfirm then (s.okSensed w).confirm w else s.okSensed w) = _
  rw [if_pos phase]
  unfold State.confirm
  rw [same, runner, s.okSensed_on w (by decide)] <;> dsimp only <;> cases t.action <;> rfl

/-- STEP_OK on a TURN whose width agrees: its step completes on the stack turned. -/
theorem stepOk_turned (w : Nat) (s : State) {t : CutStep} {l : CurrentLift} (phase : s.runner.inPhase .awaitConfirm = true)
    (step : s.theStep = some t) (lift : s.runner.lift = some l) {x : TurnKind} (action : t.action = .turn x)
    (agrees : t.expAcross ≤ w + s.store.consts.widthTolerance ∧ w ≤ t.expAcross + s.store.consts.widthTolerance) :
    StepCompletes
      (((s.okSensed w).setRunner
        { s.runner with
          working := s.runner.working.map fun b =>
            ⟨b.job, b.lift, t.strip, if x = .half then b.along else b.across, if x = .half then b.across else b.along,
              b.height, b.orient.turn x, b.partialCut⟩ }).setLink
        (s.link.offer (.step l.job l.lift t.index t.action.kind .done (s.runner.moveResult.getD ⟨false, 0, 0⟩))))
      ((s.okSensed w).stepOk w) := by
  have near : widthAgrees (s.okSensed w).store.consts.widthTolerance t.expAcross w = true := (widthAgrees_iff _ _ _).2 agrees
  rw [s.stepOk_of_confirm w phase step]
  simp only [action, State.confirmTurn, near, if_true, stackAfterTurn_eq]
  rw [← action]
  exact State.confirmStep_completes _ t lift

/-- STEP_OK on a RECALL whose width agrees: its step completes on the strip recalled. -/
theorem stepOk_recalled (w : Nat) (s : State) {t : CutStep} {l : CurrentLift} (phase : s.runner.inPhase .awaitConfirm = true)
    (step : s.theStep = some t) (lift : s.runner.lift = some l) (action : t.action = .recall)
    (agrees : t.expAcross ≤ w + s.store.consts.widthTolerance ∧ w ≤ t.expAcross + s.store.consts.widthTolerance) :
    StepCompletes
      (((s.okSensed w).setRunner
        { s.runner with
          working := s.runner.aside.getLast?.map fun a =>
            ⟨a.job, a.lift, a.strip, a.along, a.across, a.height, a.orient, false⟩
          aside := s.runner.aside.dropLast }).setLink
        (s.link.offer (.step l.job l.lift t.index t.action.kind .done (s.runner.moveResult.getD ⟨false, 0, 0⟩))))
      ((s.okSensed w).stepOk w) := by
  have near : widthAgrees (s.okSensed w).store.consts.widthTolerance t.expAcross w = true := (widthAgrees_iff _ _ _).2 agrees
  rw [s.stepOk_of_confirm w phase step]
  simp only [action, State.confirmRecall, near, if_true]
  rw [← action]
  exact State.confirmStep_completes _ t lift

theorem stepOk_disagrees (w : Nat) (s : State) {t : CutStep} (phase : s.runner.inPhase .awaitConfirm = true)
    (step : s.theStep = some t) (turn : Option TurnKind)
    (action : t.action = (match turn with | some x => .turn x | none => .recall))
    (far : ¬(t.expAcross ≤ w + s.store.consts.widthTolerance ∧ w ≤ t.expAcross + s.store.consts.widthTolerance)) :
    (s.okSensed w).stepOk w = (s.okSensed w).setLink (s.link.offer (.wait (.mismatch t.expAcross w))) := by
  have off : ¬widthAgrees (s.okSensed w).store.consts.widthTolerance t.expAcross w = true :=
    mt (widthAgrees_iff _ _ _).1 far
  rw [s.stepOk_of_confirm w phase step]
  cases turn with
  | some x =>
    rw [show t.action = .turn x from action]
    exact if_neg off
  | none =>
    rw [show t.action = .recall from action]
    exact if_neg off

/-- STEP_OK ends a pending inspection. -/
theorem State.stepOk_inspection (s : State) (w : Nat) (held : s.runner.state = .held) (first : s.runner.firstOff = true) :
    (s.okSensed w).stepOk w = ((s.okSensed w).setRunner { s.runner with firstOff := false }).resumeHeld := by
  have runner : (s.okSensed w).runner = s.runner := by simp [State.okSensed]
  rw [State.stepOk, runner, held]
  exact if_pos first

/-- STEP_OK in CLEARANCE. -/
theorem State.stepOk_clearance (s : State) (w : Nat) (state : s.runner.state = .clearance) :
    (s.okSensed w).stepOk w =
      if s.on .loadInPlace = false ∧ s.on .frontClear = true ∧ s.cycle.state = .ready then
        (s.okSensed w).setRunner { s.runner with state := .idle }
      else s.okSensed w := by
  have runner : (s.okSensed w).runner = s.runner := by simp [State.okSensed]
  have cycle : (s.okSensed w).cycle = s.cycle := by simp [State.okSensed]
  rw [State.stepOk, runner, state]
  simp only [s.okSensed_on w (show Switch.loadInPlace ≠ .stepOk by decide),
    s.okSensed_on w (show Switch.frontClear ≠ .stepOk by decide), cycle]
  simp only [Bool.and_eq_true, Bool.not_eq_true', decide_eq_true_eq, and_assoc]

/-- STEP_OK in any other state or phase. -/
theorem State.stepOk_nothing (s : State) (w : Nat)
    (other : (s.runner.state = .idle ∨ s.runner.state = .loading ∨ s.runner.state = .liftEnd) ∨
      (s.runner.state = .held ∧ s.runner.firstOff = false) ∨
      (s.runner.state = .running ∧ s.runner.phase ≠ some .awaitConfirm)) :
    (s.okSensed w).stepOk w = s.okSensed w := by
  have runner : (s.okSensed w).runner = s.runner := by simp [State.okSensed]
  rw [State.stepOk, runner]
  rcases other with (h | h | h) | ⟨h, no⟩ | ⟨h, no⟩ <;> simp [*]

theorem takeEnd_none {s : State}
    (h : s.runner.inPhase .awaitConfirm = false ∨ s.runner.takeOk = false ∨ s.on .frontClear = false) : takeEnd s = none := by
  unfold takeEnd
  exact if_neg (by rcases h with h | h | h <;> simp [h])

theorem takeEnd_due {s : State} {t : CutStep} {d : TakeDisposition} (phase : s.runner.inPhase .awaitConfirm = true)
    (step : s.theStep = some t) (action : t.action = .take d) (ok : s.runner.takeOk = true) (clear : s.on .frontClear = true) :
    takeEnd s = some (s.endTake t d) := by
  unfold takeEnd
  rw [if_pos (by simp [phase, ok, clear]), step]
  simp only [action]

/-- Settles O45: state by state, and phase by phase of a RUNNING Runner. -/
theorem stepOkConfirms : Obligations.StepOkConfirms := by
  unfold Obligations.StepOkConfirms
  intro sensed near
  refine ⟨fun w s => ⟨?confirm, ?inspection, ?clearance, ?nothing⟩, takenAt_of_place rfl, fun s => ⟨takeEnd_none, ?take⟩⟩
  case confirm =>
    intro t l k phase step lift action
    refine ⟨fun turn kind => ⟨fun agrees => ?_, fun far => ?_⟩, fun d kind => ?_⟩
    · refine ⟨_, exec_stepOk w s, ?_⟩
      rw [← action]
      cases turn with
      | some x => exact stepOk_turned w s phase step lift (action.trans kind) agrees
      | none => exact stepOk_recalled w s phase step lift (action.trans kind) agrees
    · rw [exec_stepOk, stepOk_disagrees w s phase step turn (action.trans kind) far]
      rfl
    · rw [exec_stepOk, s.stepOk_of_confirm w phase step, action, kind]
      rfl
  case inspection =>
    intro held first
    have inspected := s.stepOk_inspection w held first
    refine ⟨fun hold => ?_, fun hold => ⟨_, exec_stepOk w s, fun more => ?_, fun l last lift => ?_⟩⟩
    · have stays : ((s.okSensed w).setRunner { s.runner with firstOff := false }).resumeHeld =
          (s.okSensed w).setRunner { s.runner with firstOff := false } := by simp [State.resumeHeld, hold]
      rw [exec_stepOk, inspected, stays]
      rfl
    all_goals rw [inspected, State.resumeHeld_of_held _ (by exact held) (by exact hold) rfl]
    · rw [show ((s.okSensed w).setRunner { s.runner with firstOff := false }).runner.lastDone = false from more]
      exact State.startStep_begins _
    · rw [show ((s.okSensed w).setRunner { s.runner with firstOff := false }).runner.lastDone = true from last]
      exact State.endLift_ends _ lift
  case clearance =>
    intro state
    rw [exec_stepOk, s.stepOk_clearance w state]
    rfl
  case nothing =>
    intro other
    rw [exec_stepOk, s.stepOk_nothing w other]
    rfl
  case take =>
    intro t d l phase step action lift ok clear
    exact ⟨_, takeEnd_due phase step action ok clear, s.endTake_completes t d action lift⟩

end Sys2Proof.Machine
end

section
/-! What the switches of the table and the clearing of faults let go on (R65, R67, R70, R76, R139). -/
namespace Sys2Proof.Machine

theorem startRevoked_due {s : State} (phase : s.runner.inPhase .awaitStart = true) (halt : s.guillotineHalt = true) :
    startRevoked s = some (s.setRunner { s.runner with phase := some .prepare, faultBack := true }).withdrawCut := by
  unfold startRevoked
  rw [if_pos (by simp [phase, halt]), State.backToPrepare, if_pos phase]

/-- A CUT that waits for the grant is withdrawn with its step. -/
theorem Cycle.withdrawn_cut (c : Cycle) (purpose : c.purpose = some .cut) :
    c.withdrawn =
      { c with
        state := if c.returnState = .ready then .ready else .returnNeeded
        purpose := if c.returnState = .ready then none else some .cut
        monitor := if c.monitor = .engaged then .spent else c.monitor
        windowTimer := if c.monitor = .engaged then Timer.stopped else c.windowTimer } := by
  rw [← purpose]
  rfl

/-- A step waiting in PREPARE, by the fault that may have sent it back. -/
theorem prepareLeave_of_cut {s : State} {t : CutStep} {n : Nat} {d : Disposition} {plate : Bool}
    (phase : s.runner.inPhase .prepare = true) (step : s.theStep = some t) (action : t.action = .cut n d plate) :
    prepareLeave s =
      if s.runner.faultBack then
        if s.guillotineHalt then none else some ((s.setRunner { s.runner with faultBack := false }).checkPlate plate)
      else if plate && !s.on .plateFitted then none
      else some (s.setPhase .positioning) := by
  unfold prepareLeave
  rw [if_pos phase, step]
  simp only [action]

theorem State.checkPlate_unfaulted (s : State) (plate : Bool) :
    (s.setRunner { s.runner with faultBack := false }).checkPlate plate =
      if plate = true ∧ s.on .plateFitted = false then
        (s.setRunner { s.runner with faultBack := false, phase := some .prepare }).setLink (s.link.offer (.wait .plate))
      else s.setRunner { s.runner with faultBack := false, phase := some .positioning } := by
  unfold State.checkPlate
  by_cases missing : plate = true ∧ s.on .plateFitted = false
  · rw [if_pos missing]
    exact if_pos (show (plate && !s.on .plateFitted) = true by simpa using missing)
  · rw [if_neg missing]
    exact if_neg (show ¬(plate && !s.on .plateFitted) = true by simpa using missing)

theorem takeawayEnd_due {s : State} {t : CutStep} {c : CutOff} (phase : s.runner.inPhase .takeaway = true)
    (clear : s.on .frontClear = true) (step : s.theStep = some t) (cutoff : s.runner.cutoff = some c) :
    takeawayEnd s = some (s.endTakeaway t c) := by
  unfold takeawayEnd
  rw [if_pos (by simp [phase, clear]), step, cutoff]

/-- Settles O46: each switch only takes its input, and each reaction is read off its own guard. -/
theorem tableSwitchesReleaseTheRunner : Obligations.TableSwitchesReleaseTheRunner := by
  refine ⟨takenAt_of_place rfl, takenAt_of_place rfl, takenAt_of_place rfl, takenAt_of_place rfl, takenAt_of_place rfl,
    fun s => ⟨rfl, rfl, rfl, rfl, ?stays, ?revoked, ?prepare, ?clearing, ?takeaway, ?leave, ?lift⟩⟩
  case stays =>
    intro h
    exact if_neg (by rcases h with h | h <;> simp [h])
  case revoked =>
    intro phase halt back
    rw [startRevoked_due phase halt, State.withdrawCut_eq]
    refine ⟨fun other => ?_, fun waits purpose => ?_⟩
    · exact congrArg some (if_neg (by
        rcases other with h | h
        · simp [h]
        · simp [h]))
    · rw [if_pos (by simp [waits, purpose])]
      exact congrArg (fun c => some ((back.setCycle c).setArbiter { s.arbiter with cut := none }))
        (Cycle.withdrawn_cut s.cycle purpose)
  case prepare =>
    intro t n d plate phase step action
    rw [prepareLeave_of_cut phase step action]
    refine ⟨fun fault plate off => ?_, fun fault fits => ?_, fun fault halt => ?_, fun fault halt => ?_⟩
    · simp [fault, plate, off]
    · rw [if_neg (by simp [fault]), if_neg (by rcases fits with h | h <;> simp [h])]
      rfl
    · simp [fault, halt]
    · rw [if_pos fault, if_neg (by simp [halt]), State.checkPlate_unfaulted]
  case clearing =>
    intro h
    exact if_neg (by rcases h with h | h <;> simp [h])
  case takeaway =>
    intro t c l phase clear step cutoff lift
    exact ⟨_, takeawayEnd_due phase clear step cutoff, s.endTakeaway_completes t c lift⟩
  case leave =>
    intro state
    exact ⟨fun h => if_neg (by rcases h with h | h <;> simp [h]), fun load clear => if_pos (by simp [state, load, clear])⟩
  case lift =>
    intro state owed orphan
    exact ⟨fun h => if_neg (by simp [h]), fun h => if_pos (by simp [state, owed, orphan, h])⟩

end Sys2Proof.Machine
end

section
/-! The handover: the park asked for a lift, the transfer, its completion and its end without load (R60 to R62, R150 to R153). -/
namespace Sys2Proof.Machine

/-! ### The park asked (R60, R86) -/

theorem State.startReference_inMotion (s : State) : s.startReference.gauge.inMotion = true := by
  unfold State.startReference Gauge.home
  cases s.on .curtain <;> cases s.on .homeSwitch <;> rfl

/-- An axis that is not FAULTED is in motion once a move is asked of it. -/
theorem State.askMove_inMotion (s : State) (req : MoveReq) (standing : s.gauge.state ≠ .faulted) :
    (s.askMove req).gauge.inMotion = true := by
  have starts : (s.startMove req).gauge.inMotion = true := (s.startMove_gauge req).2.2.2
  unfold State.askMove
  split
  · exact starts
  · exact State.startReference_inMotion _
  iterate 4
    · next state =>
      split
      · simp [Gauge.inMotion, state]
      · exact starts
  · contradiction

theorem State.joggerLift_of_lift {s : State} {l : LiftRec}
    (lift : (s.jogger.state = .receiving ∧ s.infeed.held = some l) ∨
      ((s.jogger.state = .jogging ∨ s.jogger.state = .aligned ∨ s.jogger.state = .failed ∨ s.jogger.state = .handing) ∧
        s.jogger.lift = some l)) : s.joggerLift = some ⟨l.job, l.lift⟩ := by
  unfold State.joggerLift
  rcases lift with ⟨state, held⟩ | ⟨state | state | state | state, held⟩ <;> simp [state, held]

theorem askHandover_of_lift {s : State} {l : LiftId} {e : JobEntry} (lift : s.joggerLift = some l)
    (entry : s.entry l.job = some e) :
    askHandover s =
      if (s.runner.state = .idle && s.mayAsk) = true ∧
          (e.state = .running && s.runner.park ≠ some l && s.runner.asked ≠ some (.handover l)) = true then
        some ((s.setRunner { s.runner with asked := some (.handover l) }).askMove (.park (s.parkFor e.record.sheetL)))
      else none := by
  unfold askHandover
  rw [lift]
  simp only [entry]
  by_cases may : (s.runner.state = .idle && s.mayAsk) = true
  · rw [if_pos may]
    simp only [may, true_and]
  · rw [if_neg may, if_neg (fun h => may h.1)]

/-! ### The lift loaded (R62) -/

/-- The Runner of `b` with lift `l` of entry `e` loaded from bank `bk`. -/
def Runner.loaded (r : Runner) (l : LiftRec) (e : JobEntry) (bk : BankId) : Runner :=
  { r with
    lift := some ⟨l.job, l.lift, bk⟩
    tally := ⟨0, 0, 0, 0, 0⟩
    working := some ⟨l.job, l.lift, 0, e.record.sheetL, e.record.sheetW, l.height, ⟨.grip, .up⟩, false⟩
    cutoff := none
    stepIndex := 0
    lastDone := false }

/-- The bank of a load: IN_USE if it was READY. -/
theorem State.takeBank_eq (s : State) (bk : BankId) :
    s.takeBank bk =
      s.setBank bk { s.bank bk with state := if (s.bank bk).state = .ready then .inUse else (s.bank bk).state } := by
  unfold State.takeBank
  split
  · rfl
  · cases bk <;> rfl

theorem State.loadLift_loads {b : State} {l : LiftRec} {e : JobEntry} {bk : BankId} (loading : b.runner.state = .loading)
    (entry : b.entry l.job = some e) (bank : e.bank = some bk) :
    let c : State :=
      (b.setBank bk { b.bank bk with state := if (b.bank bk).state = .ready then .inUse else (b.bank bk).state }).setRunner
        (b.runner.loaded l e bk)
    if b.runner.hold = true ∨ b.runner.firstOff = true then
      b.loadLift l = c.setRunner { b.runner.loaded l e bk with state := .held, phase := none }
    else StepBegins c (b.loadLift l) := by
  intro c
  have loads : b.loadLift l = c.beginStep := by
    unfold State.loadLift
    rw [entry]
    simp only [bank]
    rw [if_pos loading, State.takeBank_eq]
    cases bk <;> rfl
  have held : (c.runner.hold || c.runner.firstOff) = (b.runner.hold || b.runner.firstOff) := by cases bk <;> rfl
  rw [loads, State.beginStep, held]
  by_cases waits : b.runner.hold = true ∨ b.runner.firstOff = true
  · rw [if_pos waits, if_pos (by simpa using waits)]
    cases bk <;> rfl
  · rw [if_neg waits, if_neg (by simpa using waits)]
    exact State.startStep_begins c

/-! ### The transfer (R150 to R153) -/

/-- The Jogger of `s` as a completed transfer leaves it. -/
def State.transferred (s : State) : Jogger :=
  let j := { s.jogger with lift := none, intensity := 0, phase := .ret, transferTimer := s.jogger.transferTimer.halt }
  if s.on .pusherHome then j.emptied else j.push .back (s.on .curtain)

theorem State.completeTransfer_eq (s : State) (l : LiftRec) :
    s.completeTransfer l = (s.setJogger s.transferred).loadLift l := rfl

/-- Both holds released, for lift `l` of the Jogger. -/
theorem State.holdsReleased_iff {s : State} :
    (s.joggerHoldReleased && s.tableHoldReleased) = true ↔
      s.jogger.state = .aligned ∧ s.on .pusherHome = true ∧ s.runner.state = .idle ∧ s.runner.aside = [] ∧
        s.on .frontClear = true ∧ s.stop = false ∧
        ∃ l, s.jogger.lift = some l ∧ s.runner.park = some ⟨l.job, l.lift⟩ := by
  have park : (match s.runner.park, s.jogger.lift with
      | some p, some l => decide (p.job = l.job) && decide (p.lift = l.lift)
      | _, _ => false) = true ↔ ∃ l, s.jogger.lift = some l ∧ s.runner.park = some ⟨l.job, l.lift⟩ := by
    cases s.runner.park with
    | none => simp
    | some p =>
      obtain ⟨job, lift⟩ := p
      cases s.jogger.lift with
      | none => simp
      | some l => simp
  unfold State.joggerHoldReleased State.tableHoldReleased
  simp only [Bool.and_eq_true, decide_eq_true_eq, Bool.not_eq_true', List.isEmpty_iff]
  constructor
  · rintro ⟨⟨aligned, home⟩, ⟨⟨⟨idle, aside⟩, clear⟩, lift⟩, stop⟩
    exact ⟨aligned, home, idle, aside, clear, stop, park.1 lift⟩
  · rintro ⟨aligned, home, idle, aside, clear, stop, lift⟩
    exact ⟨⟨aligned, home⟩, ⟨⟨⟨idle, aside⟩, clear⟩, park.2 lift⟩, stop⟩

theorem transferBegin_none {s : State}
    (h : s.jogger.state ≠ .aligned ∨ s.on .pusherHome = false ∨ s.runner.state ≠ .idle ∨ s.runner.aside ≠ [] ∨
      s.on .frontClear = false ∨ s.stop = true ∨
      (∀ l, s.jogger.lift = some l → s.runner.park ≠ some ⟨l.job, l.lift⟩)) : transferBegin s = none := by
  refine if_neg fun released => ?_
  obtain ⟨aligned, home, idle, aside, clear, stop, l, lift, park⟩ := State.holdsReleased_iff.1 released
  rcases h with h | h | h | h | h | h | h
  · exact h aligned
  · simp [home] at h
  · exact h idle
  · exact h aside
  · simp [clear] at h
  · simp [stop] at h
  · exact h l lift park

/-- The state in which a transfer has begun, before LOAD_IN_PLACE is looked at. -/
def State.pushed (s : State) : State :=
  (s.setJogger
    { s.jogger with
      state := .handing
      phase := .push
      transferTimer := ⟨true, 0, s.store.consts.transferLimit * 100⟩
      pusher := .forward
      paused := s.on .curtain
      clearTimer := Timer.stopped }).setRunner
    { s.runner with state := .loading, park := none, asked := none }

theorem State.beginTransfer_eq (s : State) (l : LiftRec) (fresh : s.jogger.paused = false) :
    s.beginTransfer l = if s.on .loadInPlace then s.pushed.completeTransfer l else s.pushed := by
  have pushes : ({ s.jogger with
        state := .handing, phase := .push, transferTimer := Timer.start (s.store.consts.transferLimit * 100) } : Jogger).push
        .forward (s.on .curtain) = s.pushed.jogger := by
    simp [Jogger.push, fresh, State.pushed, Timer.start]
  unfold State.beginTransfer
  dsimp only
  rw [pushes]
  rfl

theorem transferBegin_due {s : State} {l : LiftRec} (aligned : s.jogger.state = .aligned) (home : s.on .pusherHome = true)
    (idle : s.runner.state = .idle) (aside : s.runner.aside = []) (clear : s.on .frontClear = true) (stop : s.stop = false)
    (lift : s.jogger.lift = some l) (park : s.runner.park = some ⟨l.job, l.lift⟩) (fresh : s.jogger.paused = false) :
    transferBegin s = some (if s.on .loadInPlace then s.pushed.completeTransfer l else s.pushed) := by
  unfold transferBegin
  rw [if_pos (State.holdsReleased_iff.2 ⟨aligned, home, idle, aside, clear, stop, l, lift, park⟩), lift, Option.map_some,
    s.beginTransfer_eq l fresh]

/-- LOAD_IN_PLACE outside PUSH and TIMED_OUT. -/
theorem State.liftInPlace_none {s : State} (phase : s.jogger.phase = .none ∨ s.jogger.phase = .ret) : s.liftInPlace = s := by
  unfold State.liftInPlace
  rcases phase with phase | phase <;> rw [phase]

/-- LOAD_IN_PLACE in PUSH and TIMED_OUT. -/
theorem State.liftInPlace_completes {s : State} {l : LiftRec} (phase : s.jogger.phase = .push ∨ s.jogger.phase = .timedOut)
    (lift : s.jogger.lift = some l) : s.liftInPlace = (s.setJogger s.transferred).loadLift l := by
  unfold State.liftInPlace
  rcases phase with phase | phase
  all_goals
    rw [phase, lift]
    rfl

theorem transferAbandoned_none {s : State}
    (h : s.jogger.phase ≠ .timedOut ∨ s.faults.transferTimeout = true ∨ s.on .loadInPlace = true) :
    transferAbandoned s = none :=
  if_neg (by rcases h with h | h | h <;> simp [h])

theorem transferAbandoned_due {s : State} (phase : s.jogger.phase = .timedOut) (gone : s.faults.transferTimeout = false)
    (empty : s.on .loadInPlace = false) :
    transferAbandoned s =
      some ((s.setRunner (if s.runner.state = .loading then { s.runner with state := .idle } else s.runner)).setJogger
        { s.jogger with phase := .none }).startBaseJog := by
  unfold transferAbandoned
  rw [if_pos (by simp [phase, gone, empty])]
  by_cases loading : s.runner.state = .loading
  · rw [if_pos loading]
    dsimp only
    rw [if_pos (show (s.setJogger { s.jogger with phase := .none }).runner.state = .loading from loading)]
    rfl
  · rw [if_neg loading]
    dsimp only
    rw [if_neg (show ¬(s.setJogger { s.jogger with phase := .none }).runner.state = .loading from loading)]
    rfl

/-- Settles O47: the park asked once for a lift, the transfer begun under both holds, and each of its two ends. -/
theorem liftsAreParkedForAndHandedOver : Obligations.LiftsAreParkedForAndHandedOver := by
  unfold Obligations.LiftsAreParkedForAndHandedOver
  refine ⟨takenAt_of_place rfl, takenAt_of_place rfl, takenAt_of_place rfl, ?_⟩
  intro comesHome loads s
  have loaded {b : State} {l : LiftRec} {e : JobEntry} {bk : BankId} (loading : b.runner.state = .loading)
      (entry : b.entry l.job = some e) (bank : e.bank = some bk) : loads b (b.loadLift l) l e bk :=
    State.loadLift_loads loading entry bank
  refine ⟨?park, transferBegin_none, ?begins, ?nothing, ?completes, transferAbandoned_none, ?abandoned⟩
  case park =>
    intro l e lift entry pos
    have asks := askHandover_of_lift (State.joggerLift_of_lift lift) entry
    refine ⟨fun h => asks.trans (if_neg fun due => ?_), fun idle stop halt standing running park asked => ?_⟩
    · have ⟨⟨idle, ⟨stop, halt⟩, standing⟩, ⟨running, park⟩, asked⟩ :
          (s.runner.state = .idle ∧ (s.stop = false ∧ s.guillotineHalt = false) ∧ s.gauge.state ≠ .faulted) ∧
            (e.state = .running ∧ s.runner.park ≠ some ⟨l.job, l.lift⟩) ∧
              s.runner.asked ≠ some (.handover ⟨l.job, l.lift⟩) := by
        simpa [State.mayAsk] using due
      simp [idle, stop, halt, standing, running, park, asked] at h
    · have due : (s.runner.state = .idle && s.mayAsk) = true ∧
          (e.state = .running && s.runner.park ≠ some ⟨l.job, l.lift⟩ &&
            s.runner.asked ≠ some (.handover ⟨l.job, l.lift⟩)) = true := by
        simp [State.mayAsk, idle, stop, halt, standing, running, park, asked]
      let asker : State := s.setRunner { s.runner with asked := some (.handover ⟨l.job, l.lift⟩) }
      exact ⟨asker.askMove (.park pos), asks.trans (if_pos due), by simp [SameBut, asker], by simp [asker],
        State.askMove_asked asker (.park pos) standing, State.askMove_inMotion asker (.park pos) standing⟩
  case begins =>
    intro l aligned home idle aside clear stop lift park fresh
    have begun := transferBegin_due aligned home idle aside clear stop lift park fresh
    refine ⟨fun away => begun.trans (by rw [away]; rfl), fun e bk there entry bank => ?_⟩
    have atHome : s.pushed.on .pusherHome = true := home
    rw [there, if_pos rfl, State.completeTransfer_eq] at begun
    have jogger : s.pushed.transferred =
        ({ s.pushed.jogger with
          lift := none, intensity := 0, phase := .ret, transferTimer := s.pushed.jogger.transferTimer.halt } : Jogger).emptied :=
      if_pos atHome
    rw [jogger] at begun
    exact ⟨_, _, begun, by simp [SameBut, State.pushed], rfl, rfl, rfl, rfl, rfl, loaded rfl entry bank⟩
  case nothing =>
    intro phase
    have none_ : (s.sense .loadInPlace true).liftInPlace = s.sense .loadInPlace true :=
      State.liftInPlace_none (by simpa using phase)
    show Host.Outcome.next (s.sense .loadInPlace true).liftInPlace.finish = _
    rw [none_]
  case completes =>
    intro l e bk phase lift loading entry bank
    let b : State := (s.sense .loadInPlace true).setJogger (s.sense .loadInPlace true).transferred
    have other (x : Switch) (h : x ≠ .loadInPlace) : (s.sense .loadInPlace true).on x = s.on x := s.sense_on_other _ _ _ h
    have completed : (s.sense .loadInPlace true).liftInPlace = b.loadLift l :=
      State.liftInPlace_completes (by simpa using phase) (by simpa using lift)
    have jogger : b.jogger =
        if s.on .pusherHome then
          ({ s.jogger with
            lift := none, intensity := 0, phase := .ret, transferTimer := s.jogger.transferTimer.halt } : Jogger).emptied
        else
          ({ s.jogger with
            lift := none, intensity := 0, phase := .ret, transferTimer := s.jogger.transferTimer.halt } : Jogger).push .back
            (s.on .curtain) := by
      simp only [b, setJogger_jogger, State.transferred, other .pusherHome (by decide), other .curtain (by decide),
        State.sense_frame]
    refine ⟨b, b.loadLift l, ?_, by simp [SameBut, b], s.sense_on_self _ _, other, ⟨fun home => ?_, fun away => ?_⟩,
      loaded (by simpa [b] using loading) entry bank⟩
    · rw [← completed]
      rfl
    · rw [jogger, if_pos home]
      rfl
    · rw [jogger, if_neg (by simp [away])]
      simp [Jogger.push, Timer.halt]
  case abandoned =>
    intro phase gone empty
    let b : State := (s.setRunner (if s.runner.state = .loading then { s.runner with state := .idle } else s.runner)).setJogger
      { s.jogger with phase := .none }
    have runner : b.startBaseJog.runner = if s.runner.state = .loading then { s.runner with state := .idle } else s.runner := by
      simp [b]
    refine ⟨b.startBaseJog, transferAbandoned_due phase gone empty, by simp [SameBut, b], runner, ?_⟩
    rw [runner]
    exact State.startBaseJog_starts b

end Sys2Proof.Machine
end

section
/-! Piles: their arrival, their rejection, and their leave (R126 to R129, R136, R137). -/
namespace Sys2Proof.Machine

/-! ### The motion list (R129) -/

/-- The list of R129 ends with GRIP to the rear, face UP, from each of the eight orientations. -/
theorem motionsFor_ends (o : Orientation) : (motionsFor o).foldl (fun x m => m.apply x) o = ⟨.grip, .up⟩ := by
  obtain ⟨rear, face⟩ := o
  cases face <;> cases rear <;> rfl

theorem motionsFor_clamped (o : Orientation) :
    (motionsFor o).head? = some .clampPile ∧ (motionsFor o).getLast? = some .unclamp := by
  unfold motionsFor
  cases o.face with
  | up => exact ⟨rfl, List.getLast?_append_of_ne_nil (.clampPile :: rotationsFor o) (List.cons_ne_nil _ _)⟩
  | down =>
    exact ⟨rfl, List.getLast?_append_of_ne_nil (.clampPile :: .invert :: rotationsFor o.invert) (List.cons_ne_nil _ _)⟩

/-! ### Faults of the Infeed (R125, R174) -/

/-- PILE_BAD is latched, or stands already and changes nothing. -/
theorem State.latch_pileBad (b : State) :
    (b.faults.pileBad = false → InfeedFault b (b.latch .pileBad) { b.faults with pileBad := true }) ∧
      (b.faults.pileBad = true → b.latch .pileBad = b) :=
  ⟨fun clear => b.latch_infeed .pileBad clear rfl, fun has => State.latch_of_has (s := b) (k := .pileBad) has⟩

/-- With an Infeed station fault just latched neither unit holds the grant. -/
theorem InfeedFault.holds_none {b u : State} {f : FaultSet} (h : InfeedFault b u f) :
    u.arbiter.holder ≠ some .turn ∧ u.arbiter.holder ≠ some .lift := by
  obtain ⟨-, -, -, -, arbiter⟩ := h
  rw [arbiter]
  cases holder : b.arbiter.holder with
  | none => simp
  | some q => cases q <;> simp

theorem InfeedFault.valves_off {b u : State} {f : FaultSet} (h : InfeedFault b u f) :
    u.turnerValves = none ∧ u.liftValves = none :=
  ⟨if_neg h.holds_none.1, if_neg h.holds_none.2⟩

/-! ### Arrival (R127, R128) -/

/-- The state as PILE_PRESENT_ACTIVE takes its input and the reading. -/
def State.pileSensed (s : State) (p : Nat) : State :=
  (s.sense .pilePresent true).setChannels { s.channels with pileTop := p }

theorem exec_pilePresentActive (p : Nat) (s : State) :
    exec (.pilePresentActive p) s = .next ((s.pileSensed p).pileArrives p).finish := rfl

theorem State.pileArrives_none {b : State} (p : Nat) (h : b.infeed.turner ≠ .calling ∨ b.infeed.rejected = true) :
    b.pileArrives p = b :=
  if_neg (by rcases h with h | h <;> simp [h])

theorem pileInRange_iff (p : Nat) : pileInRange p = true ↔ 50 ≤ p ∧ p ≤ 16000 := by
  simp only [pileInRange, Bool.and_eq_true, decide_eq_true_eq]
  rfl

theorem State.pileArrives_called {b : State} (p : Nat) {n : Nat} {e : JobEntry} (calling : b.infeed.turner = .calling)
    (fresh : b.infeed.rejected = false) (called : b.infeed.called = some n) (entry : b.entry n = some e) :
    b.pileArrives p =
      if 50 ≤ p ∧ p ≤ 16000 then b.takePile e p
      else (b.setInfeed { b.infeed with rejected := true }).latch .pileBad := by
  unfold State.pileArrives
  rw [if_pos (by simp [calling, fresh]), called, Option.bind_some, entry]
  simp only [pileInRange_iff]

theorem State.takePile_effect (b : State) (e : JobEntry) (p : Nat) :
    SameBut [.link, .jobs, .infeed] b (b.takePile e p) ∧
      (b.takePile e p).infeed =
        { b.infeed with
          turner := .turning
          called := none
          pile := some (pileAtIntake b.store.consts.hmax e.record p)
          motions := motionsFor ⟨e.record.rear, e.record.face⟩ } ∧
      (b.takePile e p).jobs =
        b.jobs.map (fun x => if x.record.number = e.record.number then { x with state := .running } else x) ∧
      (b.takePile e p).link = b.link.offer (.job e.record.number .running .none) :=
  ⟨by simp [SameBut], rfl, rfl, rfl⟩

/-! ### Leave (R136, R137) -/

theorem exec_pilePresentInactive (s : State) :
    exec .pilePresentInactive s = .next (s.sense .pilePresent false).pileLeaves.finish := rfl

/-- A pallet that leaves in TURNING or READY is a pile lost. -/
theorem State.pileLeaves_lost {b : State} (h : b.infeed.turner = .turning ∨ b.infeed.turner = .ready) :
    b.pileLeaves = (b.setInfeed { b.infeed with pileLost := true }).latch .pileBad := by
  unfold State.pileLeaves
  rcases h with h | h <;> rw [h]

/-! ### Reactions (R126, R127) -/

theorem emptyOccupied_eq (s : State) :
    emptyOccupied s =
      if s.infeed.turner = .empty ∧ s.on .pilePresent = true then
        some
          ((s.setInfeed { s.infeed with turner := .clearance, rejected := false, unclamped := false }).setLink
            (s.link.offer (.wait (.clearance .infeed))))
      else none := by
  unfold emptyOccupied
  simp only [Bool.and_eq_true, decide_eq_true_eq]
  rfl

theorem rejectedOver_none {s : State} (h : s.infeed.rejected = false ∨ s.on .pilePresent = true ∨ s.faults.pileBad = true) :
    rejectedOver s = none :=
  if_neg (by rcases h with h | h | h <;> simp [h])

theorem rejectedOver_due {s : State} (rejected : s.infeed.rejected = true) (gone : s.on .pilePresent = false)
    (clear : s.faults.pileBad = false) :
    (∀ n, s.infeed.turner = .calling → s.infeed.called = some n →
      rejectedOver s = some ((s.setInfeed { s.infeed with rejected := false }).setLink (s.link.offer (.wait (.pile n))))) ∧
    (s.infeed.turner ≠ .calling ∨ s.infeed.called = none →
      rejectedOver s = some (s.setInfeed { s.infeed with rejected := false })) := by
  unfold rejectedOver
  rw [if_pos (by simp [rejected, gone, clear])]
  dsimp only [setInfeed_infeed]
  refine ⟨fun n calling called => ?_, fun other => ?_⟩
  · rw [calling, called]
    rfl
  · split
    · next calling called => simp [calling, called] at other
    · rfl

/-- Settles O48: the pile taken in, rejected or lost, and the two reactions that end a rejection. -/
theorem pilesArriveAndLeave : Obligations.PilesArriveAndLeave := by
  refine ⟨fun o => ⟨motionsFor_ends o, motionsFor_clamped o⟩, fun p s => ⟨?elsewhere, ?called, ?lost, ?exhausted, ?nothing⟩,
    takenAt_of_place rfl, takenAt_of_place rfl, fun s => ⟨emptyOccupied_eq s, rejectedOver_none, rejectedOver_due⟩⟩
  case elsewhere =>
    intro h
    rw [exec_pilePresentActive, State.pileArrives_none p (by simpa [State.pileSensed] using h)]
    rfl
  case called =>
    intro n e calling fresh called entry
    have arrives := State.pileArrives_called (b := s.pileSensed p) p (by simpa [State.pileSensed] using calling)
      (by simpa [State.pileSensed] using fresh) (by simpa [State.pileSensed] using called) entry
    have number : e.record.number = n := by simpa using List.find?_some entry
    refine ⟨fun low high => ?_, fun out => ?_⟩
    · obtain ⟨frame, infeed, jobs, link⟩ := (s.pileSensed p).takePile_effect e p
      rw [if_pos ⟨low, high⟩] at arrives
      rw [number] at jobs link
      refine ⟨(s.pileSensed p).takePile e p, by rw [exec_pilePresentActive, arrives], ?_, s.sense_on_self .pilePresent true,
        fun x hx => s.sense_on_other .pilePresent x true hx, rfl, infeed, jobs, link⟩
      exact SameBut.trans (t := s.pileSensed p) (by simp [SameBut, State.pileSensed]) frame.mono
    · intro b
      rw [if_neg (by omega)] at arrives
      rw [exec_pilePresentActive, arrives]
      exact ⟨fun clear => ⟨_, rfl, b.latch_pileBad.1 clear⟩,
        fun has => congrArg (fun t : State => Host.Outcome.next t.finish) (b.latch_pileBad.2 has)⟩
  case lost =>
    intro state b
    have leaves : (s.sense .pilePresent false).pileLeaves = b.latch .pileBad :=
      State.pileLeaves_lost (by simpa using state)
    rw [exec_pilePresentInactive, leaves]
    refine ⟨fun clear => ?_, fun has => by rw [b.latch_pileBad.2 has]⟩
    have fault := b.latch_pileBad.1 clear
    exact ⟨_, rfl, fault, fault.valves_off⟩
  case exhausted =>
    intro state
    rw [exec_pilePresentInactive]
    unfold State.pileLeaves
    rw [show (s.sense .pilePresent false).infeed.turner = .exhausted from state]
    exact rfl
  case nothing =>
    intro state
    rw [exec_pilePresentInactive]
    unfold State.pileLeaves
    rcases state with h | h | h <;> rw [show (s.sense .pilePresent false).infeed.turner = _ from h]

end Sys2Proof.Machine
end

section
/-! The division of a pile and the pile put back (R131, R132, R136, R137). -/
namespace Sys2Proof.Machine

/-! ### The division (R131, R132) -/

/-- ceil as a quotient and its remainder give it. -/
theorem ceilDiv_eq (r : Nat) {l : Nat} (pos : 0 < l) : ceilDiv r l = if r % l = 0 then r / l else r / l + 1 := by
  have split_ := Nat.div_add_mod r l
  have small := Nat.mod_lt r pos
  unfold ceilDiv
  by_cases whole : r % l = 0
  · rw [if_pos whole]
    refine Nat.div_eq_of_lt_le ?_ ?_
    · rw [Nat.mul_comm]
      omega
    · rw [Nat.mul_comm, Nat.mul_add]
      omega
  · rw [if_neg whole]
    refine Nat.div_eq_of_lt_le ?_ ?_
    · rw [Nat.mul_comm, Nat.mul_add]
      omega
    · rw [Nat.mul_comm, Nat.mul_add, Nat.mul_add]
      omega

/-- R132, steps 3 and 4, over `k` lifts to go. -/
theorem PileRec.grow_divide (p : PileRec) {k : Nat} (pos : 0 < p.limit) (toGo : p.count = p.picked + k) (free : p.picked < 64) :
    let ceil : Nat := if p.remaining % p.limit = 0 then p.remaining / p.limit else p.remaining / p.limit + 1
    let m : Nat := if k * p.limit < p.remaining then min ceil (64 - p.picked) else k
    p.grow.divide p.grow.toGo = { p with count := p.picked + m, base := p.remaining / m, extra := p.remaining % m } := by
  intro ceil m
  have lifts : p.toGo = k := by rw [PileRec.toGo, toGo, Nat.add_sub_cancel_left]
  have grown : p.grow = { p with count := p.picked + m } := by
    unfold PileRec.grow
    rw [lifts, ceilDiv_eq _ pos]
    by_cases high : k * p.limit < p.remaining
    · simp only [m, if_pos high, maxLifts]
      congr 1
      omega
    · simp only [m, if_neg high, ← toGo]
  rw [grown]
  unfold PileRec.toGo PileRec.divide
  simp only [Nat.add_sub_cancel_left]

theorem PileRec.redivide_exhausted (p : PileRec) (h : p.remaining < 50 ∨ (p.count = p.picked ∧ p.picked = 64)) :
    p.redivide = { p with exhausted := true } := by
  unfold PileRec.redivide
  by_cases low : p.remaining < minPile
  · rw [if_pos low]
  · obtain ⟨all, top⟩ := h.resolve_left low
    rw [if_neg low, if_pos (by simp [PileRec.toGo, all]), if_pos (by simp [maxLifts, top])]

theorem PileRec.redivide_divided (p : PileRec) (pos : 0 < p.limit) (within : p.picked ≤ p.count)
    (high : 50 ≤ p.remaining) (free : p.picked < 64) :
    let toGo : Nat := if p.count = p.picked then 1 else p.count - p.picked
    let ceil : Nat := if p.remaining % p.limit = 0 then p.remaining / p.limit else p.remaining / p.limit + 1
    let m : Nat := if toGo * p.limit < p.remaining then min ceil (64 - p.picked) else toGo
    p.redivide = { p with count := p.picked + m, base := p.remaining / m, extra := p.remaining % m } := by
  intro toGo ceil m
  unfold PileRec.redivide
  rw [if_neg (show ¬p.remaining < minPile from Nat.not_lt.2 high)]
  by_cases none_ : p.count = p.picked
  · have one : toGo = 1 := if_pos none_
    rw [if_pos (by simp [PileRec.toGo, none_]), if_neg (by simp only [maxLifts]; omega)]
    have divided := PileRec.grow_divide { p with count := p.count + 1 } (k := 1) pos (congrArg (· + 1) none_) free
    simp only [m, one]
    exact divided
  · have some_ : toGo = p.count - p.picked := if_neg none_
    rw [if_neg (by simp only [PileRec.toGo]; omega)]
    have divided := p.grow_divide (k := p.count - p.picked) pos (by omega) free
    simp only [m, some_]
    exact divided

/-- A division keeps the job and the lifts picked. -/
theorem PileRec.redivide_keeps (p : PileRec) : p.redivide.job = p.job ∧ p.redivide.picked = p.picked := by
  have grow (q : PileRec) : q.grow.job = q.job ∧ q.grow.picked = q.picked := by
    unfold PileRec.grow
    split <;> exact ⟨rfl, rfl⟩
  unfold PileRec.redivide
  split
  · exact ⟨rfl, rfl⟩
  · split
    · split
      · exact ⟨rfl, rfl⟩
      · exact grow { p with count := p.count + 1 }
    · exact grow p

/-- The division of R131 made again on a pile put back. -/
theorem PileRec.recount_eq (p : PileRec) (e : JobEntry) (pos : 0 < p.limit) :
    let whole : Nat := if p.height % p.limit = 0 then p.height / p.limit else p.height / p.limit + 1
    let n : Nat := min 64 (match e.record.fixedCount with
      | some k => if k * p.limit < p.height then whole else k
      | none => whole)
    p.recount (some e) = { p with count := n, base := p.remaining / n, extra := p.remaining % n } := by
  intro whole n
  have count : liftCount e.record p.height p.limit = n := by
    unfold liftCount
    rw [ceilDiv_eq _ pos]
    dsimp only [n]
    rw [Nat.min_comm] <;> cases e.record.fixedCount <;> rfl
  simp only [PileRec.recount, count, PileRec.divide]

/-! ### A pile stored (R136) -/

theorem State.storePile_kept (s : State) {p : PileRec} (more : p.exhausted = false) :
    s.storePile p = s.setInfeed { s.infeed with pile := some p } := by
  simp [State.storePile, more]

/-- A pile found exhausted: the Turner is EXHAUSTED and the job takes its final lift count. -/
theorem State.storePile_exhausted (s : State) {p : PileRec} (used : p.exhausted = true) :
    SameBut [.link, .jobs, .bankA, .bankB, .infeed] s (s.storePile p) ∧
      (s.storePile p).infeed = { s.infeed with pile := some p, turner := .exhausted } ∧
      FiguresTaken s (s.storePile p) p.job fun e => { e with finalCount := some p.picked } := by
  have stored : s.storePile p = (s.setInfeed { s.infeed with pile := some p, turner := .exhausted }).setFinal p.job p.picked := by
    simp [State.storePile, used, State.exhaust]
  rw [stored]
  refine ⟨by simp [SameBut], by simp, ?_⟩
  exact (s.setInfeed { s.infeed with pile := some p, turner := .exhausted }).figuresTaken p.job (fun _ => rfl) fun _ => rfl

end Sys2Proof.Machine
end

section
/-! Motions of the Infeed done, begun and asked (R125, R130, R133 to R137, R139). -/
namespace Sys2Proof.Machine

/-! ### MOTION_DONE (R125) -/

/-- The state as MOTION_DONE takes its inputs and the reading. -/
def State.doneSensed (s : State) (x : InfeedUnit) (ream : Bool) (p : Nat) : State :=
  ((s.sense (unitDone x) true).sense .reamHeld ream).setChannels { s.channels with pileTop := p }

/-- The Arbiter with the grant given back. -/
def State.freed (s : State) : Arbiter := { s.arbiter with unit := freeUnit (s.on .hydReady), holder := none }

theorem State.doneSensed_freed (s : State) (x : InfeedUnit) (ream : Bool) (p : Nat) : (s.doneSensed x ream p).freed = s.freed := by
  have other : (s.doneSensed x ream p).on .hydReady = s.on .hydReady :=
    ((s.sense (unitDone x) true).sense_on_other .reamHeld .hydReady ream (by decide)).trans
      (s.sense_on_other (unitDone x) .hydReady true (by cases x <;> decide))
  unfold State.freed
  rw [other]
  rfl

theorem exec_motionDone_other {s : State} {x : InfeedUnit} (ream : Bool) (p : Nat)
    (holder : s.arbiter.holder ≠ some (unitRequester x)) :
    exec (.motionDone x ream p) s = .next (s.doneSensed x ream p).finish :=
  congrArg (fun t : State => Host.Outcome.next t.finish) (if_neg holder)

theorem exec_motionDone_turner {s : State} (ream : Bool) (p : Nat) (holder : s.arbiter.holder = some .turn) :
    exec (.motionDone .turner ream p) s = .next (s.doneSensed .turner ream p).turnerMotionDone.finish :=
  congrArg (fun t : State => Host.Outcome.next t.finish) (if_pos holder)

theorem exec_motionDone_lift {s : State} (ream : Bool) (p : Nat) (holder : s.arbiter.holder = some .lift) :
    exec (.motionDone .lift ream p) s = .next (s.doneSensed .lift ream p).liftMotionDone.finish :=
  congrArg (fun t : State => Host.Outcome.next t.finish) (if_pos holder)

/-! ### The Turner's motions (R130, R139) -/

/-- What a Turner motion's done makes of the Infeed; it gives back the grant with it. -/
theorem turnerDone_effect {s : State} (ream : Bool) (p : Nat) (holder : s.arbiter.holder = some .turn) (i : Infeed)
    (becomes : i =
      if s.infeed.turnerOrphan.isSome then { s.infeed with turnerTimer := Timer.stopped, turnerOrphan := none }
      else Infeed.turnerDone { s.infeed with turnerTimer := Timer.stopped, turnerOrphan := none }) :
    ∃ u : State, exec (.motionDone .turner ream p) s = .next u.finish ∧
      SameBut [.infeed, .arbiter] (s.doneSensed .turner ream p) u ∧ u.infeed = i ∧ u.arbiter = s.freed := by
  refine ⟨_, exec_motionDone_turner ream p holder, ?_, becomes.symm, s.doneSensed_freed .turner ream p⟩
  simp [SameBut, State.turnerMotionDone]

/-! ### The Lift unit's motions (R133 to R135, R139) -/

/-- The Lift unit stands and gives back the grant, before its motion's own effect. -/
def State.liftStood (s : State) : State :=
  (s.setInfeed { s.infeed with liftTimer := Timer.stopped, pickHeight := none, liftOrphan := none }).release

theorem State.liftStood_frame (s : State) : SameBut [.infeed, .arbiter] s s.liftStood := by
  simp [SameBut, State.liftStood]

theorem State.liftMotionDone_eq (s : State) :
    s.liftMotionDone = if s.infeed.liftOrphan.isSome then s.liftStood else s.liftStood.liftDone := rfl

theorem exec_motionDone_lift_own {s : State} (ream : Bool) (p : Nat) (holder : s.arbiter.holder = some .lift)
    (own : s.infeed.liftOrphan = none) :
    exec (.motionDone .lift ream p) s = .next (s.doneSensed .lift ream p).liftStood.liftDone.finish := by
  rw [exec_motionDone_lift ream p holder, State.liftMotionDone_eq]
  exact congrArg (fun t : State => Host.Outcome.next t.finish) (if_neg (by simp [State.doneSensed, own]))

/-- The Lift unit with nothing of a motion left. -/
def Infeed.stood (i : Infeed) : Infeed := { i with liftTimer := Timer.stopped, pickHeight := none }

theorem State.liftStood_infeed {s : State} (x : InfeedUnit) (ream : Bool) (p : Nat) (own : s.infeed.liftOrphan = none) :
    (s.doneSensed x ream p).liftStood.infeed = s.infeed.stood :=
  congrArg (fun o : Option InfeedMotion =>
    ({ s.infeed with liftTimer := Timer.stopped, pickHeight := none, liftOrphan := o } : Infeed)) own.symm

theorem State.liftStood_arbiter (s : State) (x : InfeedUnit) (ream : Bool) (p : Nat) :
    (s.doneSensed x ream p).liftStood.arbiter = s.freed := s.doneSensed_freed x ream p

/-- A counted PICK, by what the division finds. -/
theorem State.countPick_effect (t : State) (q : PileRec) (p : Nat) :
    let r : PileRec := PileRec.redivide { q with remaining := p, picked := q.picked + 1 }
    let holding : Infeed :=
      { t.infeed with
        lift := .holding
        held := some ⟨q.job, q.picked + 1, q.remaining - p⟩
        failedPicks := 0
        pile := some r }
    (r.exhausted = false → t.countPick q p = t.setInfeed holding) ∧
      (r.exhausted = true →
        SameBut [.link, .jobs, .bankA, .bankB, .infeed] t (t.countPick q p) ∧
          (t.countPick q p).infeed = { holding with turner := .exhausted } ∧
          FiguresTaken t (t.countPick q p) q.job fun e => { e with finalCount := some (q.picked + 1) }) := by
  intro r holding
  let b : State :=
    t.setInfeed
      { t.infeed with lift := .holding, held := some ⟨q.job, q.picked + 1, q.remaining - p⟩, failedPicks := 0 }
  have stored : t.countPick q p = b.storePile r := rfl
  rw [stored]
  refine ⟨fun more => b.storePile_kept more, fun used => ?_⟩
  obtain ⟨job, picked⟩ := PileRec.redivide_keeps { q with remaining := p, picked := q.picked + 1 }
  obtain ⟨frame, infeed, figures⟩ := b.storePile_exhausted used
  rw [show r.job = q.job from job, show r.picked = q.picked + 1 from picked] at figures
  exact ⟨SameBut.trans (t := b) (by simp [SameBut, b]) frame.mono, infeed, figures⟩

theorem State.liftDone_pick {t : State} {q : PileRec} (picking : t.infeed.lift = .picking) (pile : t.infeed.pile = some q) :
    t.liftDone = if t.on .reamHeld then t.countPick q t.channels.pileTop else t.missPick q := by
  unfold State.liftDone
  rw [picking, pile]

theorem State.doneSensed_reamHeld (s : State) (x : InfeedUnit) (ream : Bool) (p : Nat) :
    (s.doneSensed x ream p).liftStood.on .reamHeld = ream :=
  (s.sense (unitDone x) true).sense_on_self .reamHeld ream

/-- The figures of a job are taken from table, banks and link alone. -/
theorem FiguresTaken.of_same {b c u : State} {n : Nat} {f : JobEntry → JobEntry} (h : FiguresTaken b u n f)
    (same : SameBut [.infeed, .arbiter, .inputs, .channels] c b) : FiguresTaken c u n f := by
  have jobs : b.jobs = c.jobs := same.jobs
  have bankA : b.bankA = c.bankA := same.bankA
  have bankB : b.bankB = c.bankB := same.bankB
  have link : b.link = c.link := same.link
  intro e entry
  have taken := h e (by rw [State.entry, jobs]; exact entry)
  rwa [jobs, bankA, bankB, link] at taken

/-- A PICK done with a ream held. -/
theorem pickDone_effect {s : State} {q : PileRec} (p : Nat) (holder : s.arbiter.holder = some .lift)
    (own : s.infeed.liftOrphan = none) (picking : s.infeed.lift = .picking) (pile : s.infeed.pile = some q) :
    let r : PileRec := PileRec.redivide { q with remaining := p, picked := q.picked + 1 }
    let holding : Infeed :=
      { s.infeed.stood with
        lift := .holding
        held := some ⟨q.job, q.picked + 1, q.remaining - p⟩
        failedPicks := 0
        pile := some r }
    (r.exhausted = false →
      ∃ u : State, exec (.motionDone .lift true p) s = .next u.finish ∧
        SameBut [.infeed, .arbiter] (s.doneSensed .lift true p) u ∧ u.arbiter = s.freed ∧ u.infeed = holding) ∧
    (r.exhausted = true →
      ∃ u : State, exec (.motionDone .lift true p) s = .next u.finish ∧
        SameBut [.link, .jobs, .bankA, .bankB, .infeed, .arbiter] (s.doneSensed .lift true p) u ∧
        u.arbiter = s.freed ∧ u.infeed = { holding with turner := .exhausted } ∧
        FiguresTaken s u q.job fun e => { e with finalCount := some (q.picked + 1) }) := by
  intro r holding
  have infeed := State.liftStood_infeed (s := s) .lift true p own
  have arbiter := s.liftStood_arbiter .lift true p
  have reading : (s.doneSensed .lift true p).liftStood.channels.pileTop = p := rfl
  have runs := exec_motionDone_lift_own true p holder own
  have frame := State.liftStood_frame (s.doneSensed .lift true p)
  have same : SameBut [.infeed, .arbiter, .inputs, .channels] s (s.doneSensed .lift true p).liftStood :=
    SameBut.trans (t := s.doneSensed .lift true p) (by simp [SameBut, State.doneSensed]) frame.mono
  rw [State.liftDone_pick (by rw [infeed]; exact picking) (by rw [infeed]; exact pile),
    if_pos (s.doneSensed_reamHeld .lift true p), reading] at runs
  generalize (s.doneSensed .lift true p).liftStood = t at infeed arbiter runs frame same
  obtain ⟨kept, used⟩ := t.countPick_effect q p
  rw [infeed] at kept used
  refine ⟨fun more => ⟨_, runs, ?_, ?_, ?_⟩, fun ends => ?_⟩
  · rw [kept more]
    exact SameBut.trans (t := t) frame (by simp [SameBut])
  · rw [kept more]
    exact arbiter
  · rw [kept more]
    rfl
  · obtain ⟨counted, lifts, figures⟩ := used ends
    exact ⟨_, runs, SameBut.trans (t := t) frame.mono counted.mono, counted.arbiter.trans arbiter, lifts,
      figures.of_same same⟩

/-- A PICK done without a ream: the division over the same lifts to go, and the count of failed picks. -/
theorem State.missPick_eq (t : State) (q : PileRec) :
    let missed : Infeed :=
      { t.infeed with
        lift := .returning
        returnJob := none
        pile :=
          some
            { q with
              remaining := t.channels.pileTop
              base := t.channels.pileTop / (q.count - q.picked)
              extra := t.channels.pileTop % (q.count - q.picked) } }
    (t.infeed.failedPicks = 0 → t.missPick q = t.setInfeed { missed with failedPicks := 1 }) ∧
      (t.infeed.failedPicks = 1 → t.missPick q = (t.setInfeed { missed with failedPicks := 0 }).latch .motionTimeout) := by
  intro missed
  unfold State.missPick
  exact ⟨fun none_ => by simp only [none_]; rfl, fun one => by simp only [one]; rfl⟩

end Sys2Proof.Machine
end

section
/-! A lost pile put back, and a pile that runs out (R132, R134, R136, R137). -/
namespace Sys2Proof.Machine

theorem pileBack_none {s : State} (h : s.infeed.pileLost = false ∨ s.on .pilePresent = false ∨ s.faults.pileBad = true) :
    pileBack s = none :=
  if_neg (by rcases h with h | h | h <;> simp [h])

section
variable {s : State} (lost : s.infeed.pileLost = true) (back : s.on .pilePresent = true) (clear : s.faults.pileBad = false)
include lost back clear

theorem pileBack_elsewhere (turning : s.infeed.turner ≠ .turning) (ready : s.infeed.turner ≠ .ready) :
    pileBack s = some (s.setInfeed { s.infeed with pileLost := false }) := by
  unfold pileBack
  rw [if_pos (by simp [lost, back, clear])]
  split
  · contradiction
  · contradiction
  · rfl

theorem pileBack_turning {q : PileRec} (turning : s.infeed.turner = .turning) (pile : s.infeed.pile = some q) :
    pileBack s = some (s.resumeTurning q s.channels.pileTop) := by
  unfold pileBack
  rw [if_pos (by simp [lost, back, clear]), turning, pile]

theorem pileBack_ready {q : PileRec} (ready : s.infeed.turner = .ready) (pile : s.infeed.pile = some q) :
    pileBack s = some (s.resumeReady q s.channels.pileTop) := by
  unfold pileBack
  rw [if_pos (by simp [lost, back, clear]), ready, pile]

end

/-- A pile put back before any pick, its reading in range: measured and divided again. -/
theorem pileBack_again {s : State} {q : PileRec} {e : JobEntry} {r : Nat} (entry : s.entry q.job = some e) (pos : 0 < q.limit) :
    let whole : Nat := if r % q.limit = 0 then r / q.limit else r / q.limit + 1
    let n : Nat :=
      min 64
        (match e.record.fixedCount with
        | some k => if k * q.limit < r then whole else k
        | none => whole)
    ({ q with height := r, remaining := r } : PileRec).recount (s.entry q.job) =
      { q with height := r, remaining := r, count := n, base := r / n, extra := r % n } := by
  intro whole n
  rw [entry]
  exact PileRec.recount_eq { q with height := r, remaining := r } e pos

/-- A reading out of range is refused: PILE_BAD is latched again, and the mark stays. -/
theorem pileBack_refused {s : State} {q : PileRec} (lost : s.infeed.pileLost = true) (clear : s.faults.pileBad = false)
    (pile : s.infeed.pile = some q) :
    InfeedFault s (s.latch .pileBad) { s.faults with pileBad := true } ∧ (s.latch .pileBad).infeed.pileLost = true ∧
      (s.latch .pileBad).infeed.pile = some q := by
  have fault := s.latch_pileBad.1 clear
  have ⟨_, _, _, infeed, _⟩ := fault
  rw [infeed]
  exact ⟨fault, lost, pile⟩

/-- An owed PICK dropped, what its unit then owes and asks. -/
theorem State.dropPick_effect (t : State) :
    t.dropPick.arbiter = { t.arbiter with lift := none } ∧
      t.dropPick.infeed =
        { t.infeed with
          lift := .returning
          returnJob := none
          liftOrphan := if t.arbiter.holder = some .lift then some .pick else none } := ⟨rfl, rfl⟩

/-- A pile put back after a pick: the reading is the new remaining height. -/
theorem State.resumeReady_picked {s : State} {q : PileRec} (r : Nat) (picked : 0 < q.picked) :
    let p : PileRec := PileRec.redivide { q with remaining := r }
    let t : State := (s.setInfeed { s.infeed with pileLost := false }).storePile p
    s.resumeReady q r = if p.exhausted = true ∧ t.infeed.lift = .picking then t.dropPick else t := by
  intro p t
  unfold State.resumeReady
  rw [if_neg (by omega)]
  simp only [Bool.and_eq_true, decide_eq_true_eq, p, t]

/-- A pile put back and found exhausted. -/
theorem State.resumeReady_exhausted {s : State} {q : PileRec} (r : Nat) (picked : 0 < q.picked) :
    let p : PileRec := PileRec.redivide { q with remaining := r }
    p.exhausted = true →
      SameBut [.link, .jobs, .bankA, .bankB, .infeed, .arbiter] s (s.resumeReady q r) ∧
        (s.infeed.lift = .picking →
          (s.resumeReady q r).arbiter = { s.arbiter with lift := none } ∧
            (s.resumeReady q r).infeed =
              { s.infeed with
                pileLost := false
                turner := .exhausted
                pile := some p
                lift := .returning
                returnJob := none
                liftOrphan := if s.arbiter.holder = some .lift then some .pick else none }) ∧
        (s.infeed.lift ≠ .picking →
          (s.resumeReady q r).arbiter = s.arbiter ∧
            (s.resumeReady q r).infeed = { s.infeed with pileLost := false, turner := .exhausted, pile := some p }) ∧
        FiguresTaken s (s.resumeReady q r) q.job fun x => { x with finalCount := some q.picked } := by
  intro p used
  let b : State := s.setInfeed { s.infeed with pileLost := false }
  have resumed : s.resumeReady q r =
      if p.exhausted = true ∧ (b.storePile p).infeed.lift = .picking then (b.storePile p).dropPick else b.storePile p :=
    State.resumeReady_picked r picked
  have ⟨job, lifts⟩ : p.job = q.job ∧ p.picked = q.picked := PileRec.redivide_keeps { q with remaining := r }
  obtain ⟨frame, unit, figures⟩ := b.storePile_exhausted used
  rw [job, lifts] at figures
  have same : SameBut [.link, .jobs, .bankA, .bankB, .infeed, .arbiter] s (b.storePile p) :=
    SameBut.trans (t := b) (by simp [SameBut, b]) frame.mono
  have arbiter : (b.storePile p).arbiter = s.arbiter := by simp [b]
  have lift : (b.storePile p).infeed.lift = s.infeed.lift :=
    (congrArg Infeed.lift unit).trans rfl
  obtain ⟨asks, owes⟩ := (b.storePile p).dropPick_effect
  have taken : FiguresTaken s (b.storePile p) q.job fun x => { x with finalCount := some q.picked } := figures
  by_cases picking : s.infeed.lift = .picking
  · rw [if_pos ⟨used, lift.trans picking⟩] at resumed
    rw [resumed]
    refine ⟨SameBut.trans (t := b.storePile p) same (by simp [SameBut]), fun _ => ⟨?_, ?_⟩, absurd picking, ?_⟩
    · rw [asks, arbiter]
    · rw [owes, arbiter, unit]
      rfl
    · intro e entry
      simpa only [State.dropPick_frame] using taken e entry
  · rw [if_neg fun h => picking (lift.symm.trans h.2)] at resumed
    rw [resumed]
    exact ⟨same, fun h => absurd h picking, fun _ => ⟨arbiter, unit⟩, taken⟩

/-- Settles O49: the division by R132, the PICK that exhausts a pile, and the pile put back by the Turner's state. -/
theorem pilesRunOutAndComeBack : Obligations.PilesRunOutAndComeBack := by
  refine ⟨fun p pos within top => ?division, fun s r q holder own picking pile low => ?pick, takenAt_of_place rfl,
    fun s => ⟨pileBack_none, fun lost back clear => ⟨pileBack_elsewhere lost back clear, ?back⟩⟩⟩
  case division =>
    intro toGo ceil m
    exact ⟨p.redivide_exhausted, p.redivide_divided pos within⟩
  case pick =>
    have used : PileRec.redivide { q with remaining := r, picked := q.picked + 1 } =
        { q with remaining := r, picked := q.picked + 1, exhausted := true } :=
      PileRec.redivide_exhausted { q with remaining := r, picked := q.picked + 1 } (.inl low)
    obtain ⟨u, runs, frame, arbiter, infeed, figures⟩ := (pickDone_effect r holder own picking pile).2 (by rw [used])
    rw [used] at infeed
    exact ⟨u, runs, frame, arbiter, infeed, figures⟩
  case back =>
    intro q e pile entry pos r whole n again
    have put : ({ q with height := r, remaining := r } : PileRec).recount (s.entry q.job) = again :=
      pileBack_again entry pos
    have range := pileInRange_iff r
    refine ⟨fun early inside => ?_, fun early outside => ?_, fun ready picked => ?_⟩
    · rcases early with turning | ⟨ready, none_⟩
      · rw [pileBack_turning lost back clear turning pile, State.resumeTurning, if_pos (range.2 inside)]
        dsimp only
        rw [put, if_pos turning, if_pos turning]
      · have not : s.infeed.turner ≠ .turning := by simp [ready]
        rw [pileBack_ready lost back clear ready pile, State.resumeReady, if_pos none_, if_pos (range.2 inside)]
        dsimp only
        rw [put, if_neg not, if_neg not]
    · have refused := pileBack_refused lost clear pile
      have out : ¬pileInRange s.channels.pileTop = true := fun h => by have := range.1 h; omega
      rcases early with turning | ⟨ready, none_⟩
      · rw [pileBack_turning lost back clear turning pile, State.resumeTurning, if_neg out]
        exact ⟨_, rfl, refused⟩
      · rw [pileBack_ready lost back clear ready pile, State.resumeReady, if_pos none_, if_neg out]
        exact ⟨_, rfl, refused⟩
    · intro p
      rw [pileBack_ready lost back clear ready pile]
      refine ⟨fun more => ?_, fun used => ⟨_, rfl, State.resumeReady_exhausted r picked used⟩⟩
      have resumed : s.resumeReady q r = (s.setInfeed { s.infeed with pileLost := false }).storePile p :=
        (State.resumeReady_picked r picked).trans (if_neg fun used => absurd (used.1.symm.trans more) (by decide))
      rw [resumed, State.storePile_kept _ more]
      rfl

end Sys2Proof.Machine
end

section
/-! The Infeed's motions: each done, each beginning, each request, and the motion timer (R125, R130, R133 to R135, R139). -/
namespace Sys2Proof.Machine

/-! ### The Lift unit's dones -/

/-- MOTION_TIMEOUT is latched, or stands already and changes nothing. -/
theorem State.latch_motionTimeout (b : State) :
    (b.faults.motionTimeout = false → InfeedFault b (b.latch .motionTimeout) { b.faults with motionTimeout := true }) ∧
      (b.faults.motionTimeout = true → b.latch .motionTimeout = b) :=
  ⟨fun clear => b.latch_infeed .motionTimeout clear rfl,
    fun has => State.latch_of_has (s := b) (k := .motionTimeout) has⟩

/-- A done of the Lift unit whose own effect changes the Infeed alone. -/
theorem liftDone_infeed {s : State} (ream : Bool) (p : Nat) (holder : s.arbiter.holder = some .lift)
    (own : s.infeed.liftOrphan = none) {i : Infeed}
    (done : ∀ t : State, t.infeed = s.infeed.stood → t.on .reamHeld = ream → t.channels.pileTop = p →
      t.liftDone = t.setInfeed i) :
    ∃ u : State, exec (.motionDone .lift ream p) s = .next u.finish ∧
      SameBut [.infeed, .arbiter] (s.doneSensed .lift ream p) u ∧ u.arbiter = s.freed ∧ u.infeed = i := by
  have runs := exec_motionDone_lift_own ream p holder own
  rw [done _ (State.liftStood_infeed .lift ream p own) (s.doneSensed_reamHeld .lift ream p) rfl] at runs
  refine ⟨_, runs, ?_, s.liftStood_arbiter .lift ream p, rfl⟩
  exact SameBut.trans (t := (s.doneSensed .lift ream p).liftStood) (State.liftStood_frame _) (by simp [SameBut])

/-- A PICK done without a ream. -/
theorem missDone_effect {s : State} {q : PileRec} (p : Nat) (holder : s.arbiter.holder = some .lift)
    (own : s.infeed.liftOrphan = none) (picking : s.infeed.lift = .picking) (pile : s.infeed.pile = some q) :
    let missed : Infeed :=
      { s.infeed.stood with
        lift := .returning
        returnJob := none
        pile :=
          some { q with remaining := p, base := p / (q.count - q.picked), extra := p % (q.count - q.picked) } }
    (s.infeed.failedPicks = 0 →
      ∃ u : State, exec (.motionDone .lift false p) s = .next u.finish ∧
        SameBut [.infeed, .arbiter] (s.doneSensed .lift false p) u ∧ u.arbiter = s.freed ∧
        u.infeed = { missed with failedPicks := 1 }) ∧
    (s.infeed.failedPicks = 1 →
      ∃ b : State, SameBut [.infeed, .arbiter] (s.doneSensed .lift false p) b ∧ b.arbiter = s.freed ∧
        b.infeed = { missed with failedPicks := 0 } ∧
        exec (.motionDone .lift false p) s = .next (b.latch .motionTimeout).finish) := by
  intro missed
  have misses (t : State) (infeed : t.infeed = s.infeed.stood) (ream : t.on .reamHeld = false) : t.liftDone = t.missPick q := by
    rw [State.liftDone_pick (by rw [infeed]; exact picking) (by rw [infeed]; exact pile), if_neg (by simp [ream])]
  refine ⟨fun none_ => ?_, fun one => ?_⟩
  · refine liftDone_infeed false p holder own fun t infeed ream reading => ?_
    rw [misses t infeed ream, (t.missPick_eq q).1 (by rw [infeed]; exact none_), infeed, reading]
  · let t : State := (s.doneSensed .lift false p).liftStood
    have infeed : t.infeed = s.infeed.stood := State.liftStood_infeed .lift false p own
    have second := (t.missPick_eq q).2 (by rw [infeed]; exact one)
    rw [infeed] at second
    refine ⟨t.setInfeed { missed with failedPicks := 0 }, ?_, s.liftStood_arbiter .lift false p, rfl, ?_⟩
    · exact SameBut.trans (t := t) (State.liftStood_frame _) (by simp [SameBut])
    · have runs := exec_motionDone_lift_own false p holder own
      rw [misses _ infeed (s.doneSensed_reamHeld .lift false p), second] at runs
      exact runs

/-- A DEPOSIT done: the lift record passes to a RECEIVING Jogger. -/
theorem depositDone_effect {s : State} (ream : Bool) (p : Nat) (holder : s.arbiter.holder = some .lift)
    (own : s.infeed.liftOrphan = none) (depositing : s.infeed.lift = .depositing) :
    let given : Infeed :=
      { s.infeed.stood with lift := .returning, held := none, returnJob := s.infeed.held.map LiftRec.job }
    (s.jogger.state = .receiving →
      ∃ b u : State, exec (.motionDone .lift ream p) s = .next u.finish ∧
        SameBut [.infeed, .jogger, .arbiter] (s.doneSensed .lift ream p) b ∧ b.arbiter = s.freed ∧ b.infeed = given ∧
        b.jogger = { s.jogger with lift := s.infeed.held, receivingFor := none } ∧ BaseJogStarts b u) ∧
    (s.jogger.state ≠ .receiving →
      ∃ u : State, exec (.motionDone .lift ream p) s = .next u.finish ∧
        SameBut [.infeed, .arbiter] (s.doneSensed .lift ream p) u ∧ u.arbiter = s.freed ∧ u.infeed = given) := by
  intro given
  have infeed := State.liftStood_infeed (s := s) .lift ream p own
  have arbiter := s.liftStood_arbiter .lift ream p
  have jogger : (s.doneSensed .lift ream p).liftStood.jogger = s.jogger := by simp [State.liftStood, State.doneSensed]
  have frame := State.liftStood_frame (s.doneSensed .lift ream p)
  have runs := exec_motionDone_lift_own ream p holder own
  generalize (s.doneSensed .lift ream p).liftStood = t at infeed arbiter jogger frame runs
  have deposits : t.liftDone =
      if s.jogger.state = .receiving then
        ((t.setInfeed given).setJogger { s.jogger with lift := s.infeed.held, receivingFor := none }).startBaseJog
      else t.setInfeed given := by
    unfold State.liftDone
    rw [infeed, show s.infeed.stood.lift = .depositing from depositing]
    simp only [State.handDeposit, infeed, setInfeed_jogger, jogger]
    rfl
  rw [deposits] at runs
  refine ⟨fun receiving => ?_, fun other => ?_⟩
  · rw [if_pos receiving] at runs
    exact ⟨_, _, runs, SameBut.trans (t := t) frame.mono (by simp [SameBut]), by simpa using arbiter, by simp, by simp,
      State.startBaseJog_starts _⟩
  · rw [if_neg other] at runs
    exact ⟨_, runs, SameBut.trans (t := t) frame (by simp [SameBut]), by simpa using arbiter, by simp⟩

/-- A RETURN done. -/
theorem returnDone_effect {s : State} (ream : Bool) (p : Nat) (holder : s.arbiter.holder = some .lift)
    (own : s.infeed.liftOrphan = none) (state : s.infeed.lift = .returning ∨ s.infeed.lift = .clearance) :
    ∃ u : State, exec (.motionDone .lift ream p) s = .next u.finish ∧
      SameBut [.infeed, .arbiter] (s.doneSensed .lift ream p) u ∧ u.arbiter = s.freed ∧
      u.infeed = { s.infeed.stood with lift := .idle, returnOwed := false, returnJob := none, clearReturn := false } := by
  refine liftDone_infeed ream p holder own fun t infeed _ _ => ?_
  unfold State.liftDone
  rcases state with state | state <;> rw [infeed, show s.infeed.stood.lift = _ from state] <;> rfl

/-- A Lift unit motion done that changes no record. -/
theorem orphanDone_effect {s : State} (ream : Bool) (p : Nat) (holder : s.arbiter.holder = some .lift)
    (orphan : s.infeed.liftOrphan.isSome = true) :
    ∃ u : State, exec (.motionDone .lift ream p) s = .next u.finish ∧
      SameBut [.infeed, .arbiter] (s.doneSensed .lift ream p) u ∧ u.arbiter = s.freed ∧
      u.infeed = { s.infeed.stood with liftOrphan := none } := by
  have runs := exec_motionDone_lift ream p holder
  rw [State.liftMotionDone_eq, if_pos (by simpa [State.doneSensed] using orphan)] at runs
  exact ⟨_, runs, State.liftStood_frame _, s.liftStood_arbiter .lift ream p, rfl⟩

/-! ### Beginnings and requests -/

theorem State.infeedFree_iff (s : State) : s.infeedFree = true ↔ s.stop = false ∧ s.infeedHalt = false := by
  simp [State.infeedFree]

theorem turnerCleared_eq (s : State) :
    turnerCleared s =
      if s.infeed.turner = .clearance ∧ s.infeed.unclamped = true ∧ s.on .pilePresent = false then
        some (s.setInfeed { s.infeed with turner := .empty, unclamped := false })
      else none := by
  unfold turnerCleared
  simp only [Bool.and_eq_true, decide_eq_true_eq, Bool.not_eq_true', and_assoc]

theorem liftStart_eq (s : State) :
    liftStart s =
      if s.infeed.lift = .idle ∧ s.infeed.turner = .ready ∧ s.stop = false ∧ s.infeedHalt = false then
        some
          (s.setInfeed
            { s.infeed with lift := if s.infeed.returnOwed then .returning else .picking, returnJob := none })
      else none := by
  unfold liftStart
  simp only [Bool.and_eq_true, decide_eq_true_eq, State.infeedFree_iff, and_assoc]

theorem depositStart_eq (s : State) :
    depositStart s =
      if s.infeed.lift = .holding ∧ s.jogger.state = .empty ∧ s.stop = false ∧ s.infeedHalt = false then
        some (s.setInfeed { s.infeed with lift := .depositing })
      else none := by
  unfold depositStart
  simp only [Bool.and_eq_true, decide_eq_true_eq, State.infeedFree_iff, and_assoc]

theorem Infeed.turnerOwed_isSome (i : Infeed) :
    i.turnerOwed.isSome = true ↔
      (i.turner = .turning ∧ i.motions ≠ []) ∨ (i.turner = .clearance ∧ i.unclamped = false) := by
  unfold Infeed.turnerOwed
  cases i.turner with
  | turning => cases i.motions <;> simp
  | clearance => cases i.unclamped <;> simp
  | empty | calling | ready | exhausted => simp

theorem Infeed.liftOwed_isSome (i : Infeed) :
    i.liftOwed.isSome = true ↔
      i.lift = .picking ∨ i.lift = .depositing ∨ i.lift = .returning ∨ (i.lift = .clearance ∧ i.clearReturn = true) := by
  unfold Infeed.liftOwed
  cases i.lift with
  | clearance => cases i.clearReturn <;> simp
  | idle | picking | holding | depositing | returning => simp

theorem raiseTurn_eq (s : State) :
    raiseTurn s =
      if ((s.infeed.turner = .turning ∧ s.infeed.motions ≠ []) ∨
            (s.infeed.turner = .clearance ∧ s.infeed.unclamped = false)) ∧
          s.infeed.turnerOrphan = none ∧ s.arbiter.holder ≠ some .turn ∧ s.arbiter.turn = none ∧ s.stop = false ∧
          s.infeedHalt = false then
        some (s.setArbiter { s.arbiter with turn := some 0 })
      else none := by
  unfold raiseTurn
  simp only [Bool.and_eq_true, decide_eq_true_eq, State.infeedFree_iff, Infeed.turnerOwed_isSome,
    Option.isNone_iff_eq_none, and_assoc]
  split
  · next free => rw [State.raise, if_neg (by simp [free])]; rfl
  · rfl

theorem raiseLift_eq (s : State) :
    raiseLift s =
      if (s.infeed.lift = .picking ∨ s.infeed.lift = .depositing ∨ s.infeed.lift = .returning ∨
            (s.infeed.lift = .clearance ∧ s.infeed.clearReturn = true)) ∧
          s.infeed.liftOrphan = none ∧ s.arbiter.holder ≠ some .lift ∧ s.arbiter.lift = none ∧ s.stop = false ∧
          s.infeedHalt = false then
        some (s.setArbiter { s.arbiter with lift := some 0 })
      else none := by
  unfold raiseLift
  simp only [Bool.and_eq_true, decide_eq_true_eq, State.infeedFree_iff, Infeed.liftOwed_isSome,
    Option.isNone_iff_eq_none, and_assoc]
  split
  · next free => rw [State.raise, if_neg (by simp [free])]; rfl
  · rfl

end Sys2Proof.Machine
end

section
/-! The Infeed's motions together (R125 to R139). -/
namespace Sys2Proof.Machine

/-- Settles O50: a done by the unit, its motion and what the division finds; the beginnings, the requests and the timer. -/
theorem infeedMotionsComplete : Obligations.InfeedMotionsComplete := by
  unfold Obligations.InfeedMotionsComplete
  intro sensed
  refine ⟨takenAt_of_place rfl, takenAt_of_place rfl, takenAt_of_place rfl, takenAt_of_place rfl, takenAt_of_place rfl,
    fun s => ?_⟩
  intro freed
  refine ⟨fun x ream p holder => exec_motionDone_other ream p holder, ?turning, ?lift, ?orphans, turnerCleared_eq s,
    liftStart_eq s, depositStart_eq s, raiseTurn_eq s, raiseLift_eq s, ?timer⟩
  case turning =>
    intro ream p m rest holder turning own motions
    refine turnerDone_effect ream p holder _ ?_
    rw [if_neg (show ¬s.infeed.turnerOrphan.isSome = true by simp [own])]
    unfold Infeed.turnerDone
    dsimp only
    rw [turning, motions, own]
    simp only [List.isEmpty_iff]
  case lift =>
    intro ream p holder own stood
    refine ⟨fun q picking pile held => ?_, fun q picking pile missing => ?_,
      fun depositing => depositDone_effect ream p holder own depositing,
      fun state => returnDone_effect ream p holder own state⟩
    · subst held
      exact pickDone_effect p holder own picking pile
    · subst missing
      have ⟨first, second⟩ := missDone_effect p holder own picking pile
      refine ⟨first, fun one => ?_⟩
      obtain ⟨b, frame, arbiter, infeed, runs⟩ := second one
      have ⟨latches, stands⟩ := b.latch_motionTimeout
      rw [show b.faults = s.faults from frame.faults] at latches stands
      refine ⟨b, frame, arbiter, infeed, fun clear => ⟨_, runs, latches clear⟩, fun has => ?_⟩
      rw [runs, stands has]
  case orphans =>
    intro ream p
    refine ⟨fun holder orphan => ?_, fun holder own clearance => ?_, fun holder orphan => orphanDone_effect ream p holder orphan⟩
    · obtain ⟨u, runs, frame, infeed, arbiter⟩ := turnerDone_effect ream p holder _ rfl
      rw [if_pos orphan] at infeed
      exact ⟨u, runs, frame, arbiter, infeed⟩
    · obtain ⟨u, runs, frame, infeed, arbiter⟩ := turnerDone_effect ream p holder _ rfl
      rw [if_neg (show ¬s.infeed.turnerOrphan.isSome = true by simp [own])] at infeed
      refine ⟨u, runs, frame, arbiter, infeed.trans ?_⟩
      unfold Infeed.turnerDone
      dsimp only
      rw [clearance, own]
  case timer =>
    intro x
    have ⟨latches, stands⟩ := s.latch_motionTimeout
    have runs : exec (.motionTimerExpiry x) s =
        .next (if (s.infeed.timerOf x).running then s.latch .motionTimeout else s).finish := rfl
    refine ⟨fun running clear => ?_, fun h => ?_⟩
    · rw [if_pos running] at runs
      exact ⟨_, runs, latches clear⟩
    · rw [runs]
      rcases h with still | has
      · rw [if_neg (by simp [still])]
      · rw [stands has, ite_self]

end Sys2Proof.Machine
end

section
/-! Jogging, its scans, its failure and JOG_OK (R144 to R149, R155). -/
namespace Sys2Proof.Machine

/-! ### The end of a scan (R145, R146) -/

theorem scanPasses_iff (res : Nat) (c k : EdgeCounts) :
    scanPasses res c k = true ↔
      k.rf1 ≤ c.rf1 * 2 ^ (16 - res) ∧ k.rf2 ≤ c.rf2 * 2 ^ (16 - res) ∧ k.rf3 ≤ c.rf3 * 2 ^ (16 - res) ∧
        k.sf1 ≤ c.sf1 * 2 ^ (16 - res) ∧ k.sf2 ≤ c.sf2 * 2 ^ (16 - res) := by
  simp only [scanPasses, inContact, Bool.and_eq_true, decide_eq_true_eq, and_assoc]

theorem exec_edgeScanEnd_scan {n : EdgeCounts} {r : ScanRun} {s : State} (jogging : s.jogger.state = .jogging)
    (scan : s.jogger.scan = some r) : exec (.edgeScanEnd n) s = .next (s.endScan r n).finish := by
  show Host.Outcome.next _ = _
  rw [jogging, scan]

theorem exec_edgeScanEnd_none {n : EdgeCounts} {s : State} (h : s.jogger.state ≠ .jogging ∨ s.jogger.scan = none) :
    exec (.edgeScanEnd n) s = .next s.finish := by
  show Host.Outcome.next _ = _
  rcases h with h | h
  · cases state : s.jogger.state <;> simp_all
  · rw [h]
    cases s.jogger.state <;> rfl

theorem State.endScan_effect (s : State) (r : ScanRun) (n : EdgeCounts) :
    let c : EdgeCounts := saturatedCounts r.res n
    let j : Jogger := { s.jogger with lastScan := some c }
    (scanPasses r.res c s.store.consts.edges = true → s.jogger.pass + 1 = s.store.consts.na →
      s.endScan r n =
        s.setJogger
          { j with state := .aligned, pass := s.jogger.pass + 1, jogTimer := Timer.stopped, scan := none }) ∧
    (scanPasses r.res c s.store.consts.edges = true → s.jogger.pass + 1 ≠ s.store.consts.na →
      s.endScan r n = s.setJogger { j with pass := s.jogger.pass + 1, scan := some s.freshScan }) ∧
    (¬scanPasses r.res c s.store.consts.edges = true →
      s.endScan r n = s.setJogger { j with pass := 0, scan := some s.freshScan }) := by
  intro c j
  unfold State.endScan
  refine ⟨fun passes last => ?_, fun passes more => ?_, fun fails => if_neg fails⟩
  · exact (if_pos passes).trans (if_pos last)
  · exact (if_pos passes).trans (if_neg more)

/-! ### Jogging started again (R148, R149) -/

theorem jogRestart_none {s : State} (h : s.jogger.state ≠ .jogging ∨ s.jogger.jogTimer.running = true ∨ s.stop = true) :
    jogRestart s = none :=
  if_neg (by rcases h with h | h | h <;> simp [h])

theorem jogRestart_due {s : State} (jogging : s.jogger.state = .jogging) (halted : s.jogger.jogTimer.running = false)
    (stop : s.stop = false) : jogRestart s = some (s.startJog s.jogger.intensity s.jogger.rejogUsed) :=
  if_pos (by simp [jogging, halted, stop])

theorem jogRetry_none {s : State} (h : s.jogger.state ≠ .failed ∨ s.faults.jogFailed = true) : jogRetry s = none :=
  if_neg (by rcases h with h | h <;> simp [h])

theorem jogRetry_due {s : State} (failed : s.jogger.state = .failed) (gone : s.faults.jogFailed = false) :
    jogRetry s = some s.startBaseJog :=
  if_pos (by simp [failed, gone])

/-! ### The jog timer's expiry (R147) -/

/-- JOG_FAILED latched: a fault without a halt. -/
theorem State.latch_jogFailed (b : State) :
    SameBut [.link, .faults] b (b.latch .jogFailed) ∧
      (b.latch .jogFailed).faults = { b.faults with jogFailed := true } ∧
      (b.latch .jogFailed).link =
        if b.faults.jogFailed then b.link else b.link.offer (.fault { b.faults with jogFailed := true }) := by
  cases latched : b.faults.jogFailed with
  | true =>
    rw [State.latch_of_has (s := b) (k := .jogFailed) latched, ← latched]
    exact ⟨by simp [SameBut], rfl, by simp [latched]⟩
  | false =>
    have latches : b.latch .jogFailed = b.changeFaults { b.faults with jogFailed := true } :=
      if_neg (by simp [FaultSet.has, latched])
    rw [latches]
    exact ⟨by simp [SameBut], rfl, rfl⟩

theorem exec_jogTimerExpiry_due {s : State} (jogging : s.jogger.state = .jogging) (running : s.jogger.jogTimer.running = true) :
    exec .jogTimerExpiry s = .next s.jogTimeout.transmit :=
  congrArg (fun t : State => Host.Outcome.next t.transmit) (if_pos (by simp [jogging, running]))

theorem State.jogTimeout_failed {s : State} (used : s.jogger.rejogUsed = true) :
    SameBut [.link, .jogger, .faults] s s.jogTimeout ∧
      s.jogTimeout.jogger = { s.jogger with state := .failed, jogTimer := Timer.stopped, scan := none, pass := 0 } ∧
      s.jogTimeout.faults = { s.faults with jogFailed := true } ∧
      s.jogTimeout.link =
        (if s.faults.jogFailed then s.link else s.link.offer (.fault { s.faults with jogFailed := true })).offer
          (.wait .jogOk) := by
  let b : State := s.setJogger { s.jogger with state := .failed, jogTimer := Timer.stopped, scan := none, pass := 0 }
  have fails : s.jogTimeout = (b.latch .jogFailed).await .jogOk := if_pos used
  obtain ⟨frame, faults, link⟩ := b.latch_jogFailed
  rw [fails]
  refine ⟨?_, frame.jogger, faults, congrArg (fun l : Link => l.offer (.wait .jogOk)) link⟩
  exact SameBut.trans (t := b) (by simp [SameBut, b])
    (SameBut.trans (t := b.latch .jogFailed) frame.mono (by simp [SameBut, State.await, State.notify]))

/-! ### JOG_OK (R148, R155) -/

/-- The Jogger as JOG_OK leaves it. -/
theorem State.jogOk_effect (s : State) :
    SameBut [.jogger] s s.jogOk ∧
      (s.jogger.state = .failed → s.jogOk.jogger = { s.jogger with state := .aligned }) ∧
      (s.jogger.state ≠ .failed → s.jogger.state ≠ .clearance → s.jogOk.jogger = s.jogger) ∧
      (s.jogger.state = .clearance →
        s.jogOk.jogger =
          if s.on .liftPresent then s.jogger
          else if s.on .pusherHome then s.jogger.emptied
          else if s.jogger.pusher = .back then s.jogger
          else s.jogger.push .back (s.on .curtain)) := by
  refine ⟨by simp [SameBut], fun failed => ?_, fun failed clearance => ?_, fun clearance => ?_⟩
  · rw [State.jogOk, failed]
    rfl
  · cases state : s.jogger.state with
    | failed => exact absurd state failed
    | clearance => exact absurd state clearance
    | empty | receiving | jogging | aligned | handing => simp [State.jogOk, state]
  · rw [State.jogOk, clearance]
    simp only [apply_ite State.jogger, setJogger_jogger]

theorem State.dropJogFailed_effect (s : State) :
    SameBut [.link, .faults] s s.dropJogFailed ∧ s.dropJogFailed.faults = { s.faults with jogFailed := false } ∧
      s.dropJogFailed.link =
        if s.faults.jogFailed then s.link.offer (.fault { s.faults with jogFailed := false }) else s.link := by
  cases has : s.faults.jogFailed with
  | true =>
    rw [show s.dropJogFailed = s.changeFaults { s.faults with jogFailed := false } from if_pos has]
    exact ⟨by simp [SameBut], rfl, rfl⟩
  | false =>
    rw [show s.dropJogFailed = s from if_neg (by simp [has]), ← has]
    exact ⟨by simp [SameBut], rfl, by simp [has]⟩

/-- The pusher sent back, from HOLD or forward. -/
theorem Jogger.push_back (j : Jogger) (broken : Bool) :
    j.push .back broken =
      { j with
        pusher := .back
        paused := broken || j.paused
        clearTimer := if j.paused = true ∧ broken = false then j.clearTimer else Timer.stopped } := by
  simp [Jogger.push]

/-- The inputs as JOG_OK takes them. -/
def State.jogSensed (s : State) (present : Bool) : State := (s.sense .jogOk true).sense .liftPresent present

theorem State.jogSensed_on (s : State) (present : Bool) :
    (s.jogSensed present).on .jogOk = true ∧ (s.jogSensed present).on .liftPresent = present ∧
      ∀ x, x ≠ .jogOk → x ≠ .liftPresent → (s.jogSensed present).on x = s.on x := by
  refine ⟨?_, State.sense_on_self _ _ _, fun x ok lift => ?_⟩
  · exact (State.sense_on_other _ .liftPresent .jogOk present (by decide)).trans (State.sense_on_self _ _ _)
  · exact (State.sense_on_other _ .liftPresent x present lift).trans (State.sense_on_other _ .jogOk x true ok)

theorem jogOk_runs (s : State) (present : Bool) :
    ∃ u : State, exec (.jogOk present) s = .next u.finish ∧ SameBut [.link, .jogger, .inputs, .faults] s u ∧
      u.inputs = (s.jogSensed present).inputs ∧ u.faults = { s.faults with jogFailed := false } ∧
      u.link = (if s.faults.jogFailed then s.link.offer (.fault { s.faults with jogFailed := false }) else s.link) ∧
      u.jogger = (s.jogSensed present).jogOk.jogger := by
  have sensed : SameBut [.inputs] s (s.jogSensed present) := by simp [SameBut, State.jogSensed]
  have pressed := (s.jogSensed present).jogOk_effect.1
  obtain ⟨dropped, faults, link⟩ := (s.jogSensed present).jogOk.dropJogFailed_effect
  rw [pressed.faults, show (s.jogSensed present).faults = s.faults from sensed.faults] at faults link
  rw [pressed.link, show (s.jogSensed present).link = s.link from sensed.link] at link
  refine ⟨(s.jogSensed present).jogOk.dropJogFailed, rfl, ?_, dropped.inputs.trans pressed.inputs, faults, link, dropped.jogger⟩
  exact SameBut.trans (t := s.jogSensed present) sensed.mono
    (SameBut.trans (t := (s.jogSensed present).jogOk) pressed.mono dropped.mono)

/-- Settles O51: a scan's end by what it counted, the jog timer's expiry by the re-jog, JOG_OK by the Jogger's state. -/
theorem joggingScansAndFails : Obligations.JoggingScansAndFails := by
  refine ⟨?scan, fun n s => exec_edgeScanEnd_none, takenAt_of_place rfl, takenAt_of_place rfl, fun s => ⟨jogRestart_none,
    fun jogging halted stop => ⟨_, jogRestart_due jogging halted stop, State.startJog_starts _ _ _⟩, jogRetry_none,
    fun failed gone => ⟨_, jogRetry_due failed gone, State.startBaseJog_starts _⟩, ?expiry, ?idle, ?ok⟩⟩
  case scan =>
    intro n r s jogging scan top c k f pass
    have passes : scanPasses r.res c s.store.consts.edges = true ↔ pass := scanPasses_iff r.res c k
    obtain ⟨last, more, fails⟩ := s.endScan_effect r n
    refine ⟨_, exec_edgeScanEnd_scan jogging scan, by simp [SameBut], fun pass all => ?_, fun pass few => ?_, fun no => ?_⟩
    · rw [last (passes.2 pass) all]
      exact ⟨rfl, rfl⟩
    · rw [more (passes.2 pass) few]
      rfl
    · rw [fails (mt passes.1 no)]
      rfl
  case expiry =>
    intro jogging running
    have runs := exec_jogTimerExpiry_due jogging running
    refine ⟨fun unused stop => ?_, fun used => ?_⟩
    · have again : s.jogTimeout = s.startJog (min (s.jogger.intensity + 1) 4) true := if_neg (by simp [unused])
      rw [again] at runs
      exact ⟨_, runs, State.startJog_starts _ _ _⟩
    · obtain ⟨frame, jogger, faults, link⟩ := State.jogTimeout_failed used
      have silent : s.jogTimeout.airOutput = false := by simp [State.airOutput, jogger]
      exact ⟨_, runs, frame, silent, jogger, faults, link⟩
  case idle =>
    intro h
    exact congrArg (fun t : State => Host.Outcome.next t.transmit) (if_neg (by rcases h with h | h <;> simp [h]))
  case ok =>
    intro present
    obtain ⟨u, runs, frame, inputs, faults, link, jogger⟩ := jogOk_runs s present
    obtain ⟨ok, lift, others⟩ := s.jogSensed_on present
    obtain ⟨-, failed, other, clearance⟩ := (s.jogSensed present).jogOk_effect
    have same : (s.jogSensed present).jogger = s.jogger := by simp [State.jogSensed]
    have on (x : Switch) : u.on x = (s.jogSensed present).on x := by rw [State.on, inputs]; rfl
    rw [same] at failed other clearance
    rw [lift, others .pusherHome (by decide) (by decide), others .curtain (by decide) (by decide), Jogger.push_back] at clearance
    refine ⟨u, runs, frame, (on _).trans ok, (on _).trans lift, fun x a b => (on x).trans (others x a b), faults, link,
      fun h => jogger.trans (failed h), fun h i => jogger.trans (other h i), fun h => ?_⟩
    rw [jogger, clearance h]
    refine ⟨fun there => if_pos there, fun gone home => ?_, fun gone away => ?_⟩
    · rw [if_neg (by simp [gone]), if_pos home]
      rfl
    · rw [if_neg (by simp [gone]), if_neg (by simp [away])]

end Sys2Proof.Machine
end

section
/-! The pusher home, and the transfer that times out (R152, R153). -/
namespace Sys2Proof.Machine

theorem Jogger.home_emptied {j : Jogger} (h : j.phase = .ret ∨ (j.pusher = .back ∧ j.state = .clearance)) :
    j.home = j.emptied := by
  unfold Jogger.home
  by_cases ret : j.phase = .ret
  · rw [if_pos ret]
  · obtain ⟨back, clearance⟩ := h.resolve_left ret
    rw [if_neg ret, if_pos back, if_pos clearance]

theorem Jogger.home_holds {j : Jogger} (phase : j.phase ≠ .ret) (back : j.pusher = .back) (state : j.state ≠ .clearance) :
    j.home = { j with pusher := .hold, paused := false, clearTimer := Timer.stopped } := by
  unfold Jogger.home
  rw [if_neg phase, if_pos back, if_neg state]
  rfl

theorem Jogger.home_stays {j : Jogger} (phase : j.phase ≠ .ret) (other : j.pusher ≠ .back) : j.home = j := by
  unfold Jogger.home
  rw [if_neg phase, if_neg other]

/-- The state in which a transfer has timed out, before its fault. -/
def State.turnedBack (s : State) : State :=
  s.setJogger
    { s.jogger with
      phase := .timedOut
      transferTimer := ⟨false, s.jogger.transferTimer.limit, s.jogger.transferTimer.limit⟩
      pusher := .back
      paused := s.on .curtain
      clearTimer := Timer.stopped }

theorem State.transferTimeout_eq {s : State} (moving : s.jogger.paused = false) :
    s.transferTimeout = s.turnedBack.latch .transferTimeout := by
  unfold State.transferTimeout
  dsimp only
  rw [Jogger.push_back]
  simp only [moving, Bool.or_false, Bool.false_eq_true, false_and, if_false]
  rfl

theorem exec_transferTimerExpiry (s : State) :
    exec .transferTimerExpiry s =
      .next (if s.jogger.phase = .push && s.pusherOutput = .forward then s.transferTimeout else s).transmit := rfl

/-- A guillotine station fault leaves the Runner's state and step index. -/
theorem GuillotineFault.runner_keeps {b u : State} {f : FaultSet} (h : GuillotineFault b u f) :
    u.runner.state = b.runner.state ∧ u.runner.stepIndex = b.runner.stepIndex := by
  obtain ⟨-, -, -, -, -, -, runner⟩ := h
  have marked : b.runnerMarked.state = b.runner.state ∧ b.runnerMarked.stepIndex = b.runner.stepIndex := by
    unfold State.runnerMarked
    split <;> exact ⟨rfl, rfl⟩
  rw [runner]
  dsimp only
  split
  · exact marked
  · exact ⟨rfl, rfl⟩

/-- A guillotine station fault leaves a cycle that is no CUT. -/
theorem GuillotineFault.cycle_keeps {b u : State} {f : FaultSet} (h : GuillotineFault b u f)
    (purpose : b.cycle.purpose ≠ some .cut) : u.cycle = b.cycle := by
  obtain ⟨-, -, -, -, cycle, -⟩ := h
  rw [cycle, if_neg (by simp [purpose]), if_neg (by simp [purpose])]

/-- Settles O52: the pusher home by its direction and phase, and the timeout as a guillotine station fault. -/
theorem pusherComesHomeOrTimesOut : Obligations.PusherComesHomeOrTimesOut := by
  intro s
  refine ⟨?home, fun phase forward moving stop => ?expires, fun h => ?nothing⟩
  case home =>
    have jogger : ((s.sense .pusherHome true).setJogger (s.sense .pusherHome true).jogger.home).jogger = s.jogger.home := by
      simp
    refine ⟨_, rfl, by simp [SameBut], s.sense_on_self .pusherHome true, fun x hx => s.sense_on_other .pusherHome x true hx,
      fun h => ?_, fun phase back state => ?_, fun phase other => ?_⟩
    · exact jogger.trans (Jogger.home_emptied h)
    · exact jogger.trans (Jogger.home_holds phase back state)
    · exact jogger.trans (Jogger.home_stays phase other)
  case expires =>
    intro limit b
    have runs : exec .transferTimerExpiry s = .next (b.latch .transferTimeout).transmit := by
      rw [exec_transferTimerExpiry, if_pos (by simp [phase, State.pusherOutput_forward.2 ⟨stop, moving, forward⟩]),
        State.transferTimeout_eq moving]
      rfl
    refine ⟨fun clear => ?_, fun has => ?_⟩
    · have fault : GuillotineFault b (b.latch .transferTimeout) { b.faults with transferTimeout := true } :=
        b.latch_guillotine .transferTimeout clear rfl
      have ⟨frame, _, link, _⟩ := fault
      obtain ⟨position, valid, rests, -⟩ := fault.gauge_stands
      obtain ⟨state, index⟩ := fault.runner_keeps
      exact ⟨_, runs, fault, frame.jogger, link, rests, position, valid, state, index, fault.cycle_keeps⟩
    · rw [runs, State.latch_of_has (s := b) (k := .transferTimeout) has]
  case nothing =>
    have idle : ¬(s.jogger.phase = .push ∧ s.pusherOutput = .forward) := by
      rw [State.pusherOutput_forward]
      rintro ⟨phase, stop, moving, forward⟩
      simp [phase, stop, moving, forward] at h
    rw [exec_transferTimerExpiry, if_neg (by simpa using idle)]

end Sys2Proof.Machine
end
